-- ==== Sys2Proof/Word.lean ====
section
/-! DEFINITION. The widths of the block: bytes, coordinates, the transaction word and the packet. -/

namespace Sys2Proof

/-- A u8 (00 R10). -/
abbrev Byte := BitVec 8

/-- A finger coordinate, `COORD_W = 32` bits of two's complement (00 R7, 10 R30). -/
abbrev Coord := BitVec 32

/-- One transaction word `T[63:0]` (30 R80). -/
abbrev TxWord := BitVec 64

/-- The packet word `P[47:0]` of the opcode table (30 R82). -/
abbrev PktWord := BitVec 48

/-- A firmware version, 24 bits (10 R24). -/
abbrev Firmware := BitVec 24

/-- A finger slot id, 0 to `MAX_FINGERS - 1 = 4` (00 R7, 10 R30). -/
abbrev Slot := Fin 5

/-- A set of slots; bit s is slot s (10 R31, R32). -/
abbrev Mask := BitVec 5

/-- The six bytes of a packet in arrival order, `PACKET_LEN = 6` (20 R61, 00 R7). -/
abbrev Packet := Vector Byte 6

end Sys2Proof
end

