-- ==== Sys2Proof/Config.lean ====
section
/-! DEFINITION. The closed sets of names the rules use (generations, dialects, check modes, kinds), the implementation
parameters of 00 R7 as plain data, the serializer's steps and requests, and the free values a RESET leaves. -/

namespace Sys2Proof

/-- The four generations of the protocol (00 R2, 10 R25). -/
inductive Gen where
  | v1 | v2 | v3 | v4
deriving DecidableEq, Repr

/-- How a register access or a query is framed on the wire (10 R28). -/
inductive Dialect where
  | slicedPS2 | directElan
deriving DecidableEq, Repr

/-- Which V4 sanity check applies (10 R29). -/
inductive CheckMode where
  | crc | ic7 | default
deriving DecidableEq, Repr

/-- The kind of a packet, in the order of its codes 0 to 4 (30 R97). -/
inductive PacketKind where
  | unknown | trackPoint | status | head | motion
deriving DecidableEq, Repr

/-- The commands the serializer names (30 R95). -/
inductive CmdName where
  | setRes | setScale11 | getInfo | custom | opRegRead | opRegWrite
deriving DecidableEq, Repr

/-- One byte of a plan before its operands are known: a named command, a fixed byte, or an operand of the request. -/
inductive PlanByte where
  | cmd (c : CmdName)
  | lit (b : Byte)
  | addr
  | val
  | query
deriving DecidableEq, Repr

/-- How a plan byte goes on the wire: as itself, or as a sliced command (30 R96). -/
inductive PlanPiece where
  | plain (b : PlanByte)
  | sliced (b : PlanByte)
deriving DecidableEq, Repr

/-- A step of a plan before its operands are known (40 R121). -/
structure PlanStep where
  cmds  : List PlanPiece
  n     : Nat
  retry : Bool
deriving DecidableEq, Repr

/-- The parameter `SerializerTable` (00 R7): the plan of every request in every generation or dialect. -/
structure SerializerTable where
  writeV1 : List PlanStep
  writeV2 : List PlanStep
  writeV3 : List PlanStep
  writeV4 : List PlanStep
  readV1  : List PlanStep
  readV2  : List PlanStep
  readV3  : List PlanStep
  readV4  : List PlanStep
  slicedQuery : List PlanStep
  directQuery : List PlanStep
deriving DecidableEq, Repr

/-- A SlicedPS2 step: not retried (40 R121). -/
def PlanStep.slice (b : PlanByte) : PlanStep := { cmds := [.sliced b], n := 0, retry := false }

/-- A DirectElan step: one command byte, retried (40 R121). -/
def PlanStep.direct (b : PlanByte) : PlanStep := { cmds := [.plain b], n := 0, retry := true }

/-- The default plans (40 R124 to R130). -/
def SerializerTable.default : SerializerTable where
  writeV1 := [.slice (.cmd .opRegWrite), .slice .addr, .slice .val,
    { cmds := [.plain (.cmd .setScale11)], n := 0, retry := false }]
  writeV2 := [.direct (.cmd .custom), .direct (.cmd .opRegWrite), .direct .addr, .direct .val]
  writeV3 := [.direct (.cmd .custom), .direct (.cmd .opRegWrite), .direct .addr, .direct .val]
  writeV4 := [.direct (.cmd .custom), .direct (.cmd .opRegWrite), .direct .addr,
    .direct (.cmd .opRegWrite), .direct .val]
  readV1 := [.slice (.cmd .opRegRead), .slice .addr,
    { cmds := [.plain (.cmd .getInfo)], n := 3, retry := false }]
  readV2 := [.direct (.cmd .custom), .direct (.cmd .opRegRead), .direct .addr,
    { cmds := [.plain (.cmd .getInfo)], n := 3, retry := true }]
  readV3 := [.direct (.cmd .custom), .direct (.cmd .opRegRead), .direct .addr,
    { cmds := [.plain (.cmd .getInfo)], n := 3, retry := true }]
  readV4 := [.direct (.cmd .custom), .direct (.cmd .opRegRead), .direct .addr,
    { cmds := [.plain (.cmd .getInfo)], n := 3, retry := true }]
  slicedQuery := [.slice .query, { cmds := [.plain (.cmd .getInfo)], n := 3, retry := false }]
  directQuery := [.direct (.cmd .custom), .direct .query,
    { cmds := [.plain (.cmd .getInfo)], n := 3, retry := true }]

/-- The implementation parameters (00 R7, 30 R95). They are fixed for a run; State carries them, so that a claim over every
state is a claim over every value of them. DESIGN CHOICE (log 5). -/
structure Params where
  weight        : Coord
  nTries        : Byte
  retryDelay    : Nat
  cmdSetRes     : Byte
  cmdSetScale11 : Byte
  cmdGetInfo    : Byte
  cmdCustom     : Byte
  opRegRead     : Byte
  opRegWrite    : Byte
  slicedPrefix  : List Byte
  table         : SerializerTable
deriving DecidableEq, Repr

/-- The spec's own defaults (00 R7, 30 R95). PRESUMED: 93 G1 to G3 take the values from general knowledge (log 5). -/
def Params.default : Params where
  weight        := 5
  nTries        := 3
  retryDelay    := 500
  cmdSetRes     := 0xE8
  cmdSetScale11 := 0xE6
  cmdGetInfo    := 0xE9
  cmdCustom     := 0xF8
  opRegRead     := 0x10
  opRegWrite    := 0x11
  slicedPrefix  := []
  table         := .default

/-- A step of a command plan: the bytes of one Transfer, the reply bytes expected, whether it is retried (40 R121). -/
structure SerStep where
  cmds  : List Byte
  n     : Nat
  retry : Bool
deriving DecidableEq, Repr, Inhabited

/-- The request in flight and its operands, `ser_req` (10 R41). -/
inductive Req where
  | write (addr val : Byte)
  | read (addr : Byte)
  | query (q : Byte)
  | slicedQuery (q : Byte)
deriving DecidableEq, Repr, Inhabited

/-- The elements RESET leaves unspecified, the buffer and the slots cell by cell (10 R42, 70 R300). -/
structure Unspecified where
  cfgFw   : Firmware
  cfgS1   : Byte
  cfgTp   : Bool
  cfgYmax : BitVec 16
  frBuf   : Fin 6 → Byte
  slotX   : Slot → Coord
  slotY   : Slot → Coord
  serPlan : List SerStep
  serIdx  : Nat
  serTry  : Byte
  serRep  : List (List Byte)
  serReq  : Req
deriving Inhabited

/-- What the n-th RESET of a run leaves in the unspecified elements: free values, nothing constrains them (93 U1; log 4). -/
opaque Config.unspecified : Nat → Unspecified

/-- The 16-bit `ymax` a host loads for a y_max outside 0 to 65535, a free value: the spec gives no such case, since it says every
y_max the source defines fits (41 R183). DESIGN CHOICE (log 31). -/
opaque Config.ymaxBeyond : Int → BitVec 16

end Sys2Proof
end

