-- ==== Sys2Proof/Syntax.lean ====
section
/-! DEFINITION. The instructions: one constructor per row of spec/opcode_table.json, seven transactions and fifteen packet
rows. A packet row carries the whole packet, because its record repeats all six bytes (30 R99). -/

namespace Sys2Proof

inductive Instr where
  /-- RESET, tag 0 (70 R300). -/
  | reset
  /-- PROFILE_LOAD, tag 1 (41 R165). -/
  | profileLoad (fw : Firmware) (s1 : Byte) (tp : Bool) (ymax : BitVec 16)
  /-- BYTE_IN, tag 2 (42 R200). -/
  | byteIn (b : Byte)
  /-- REG_WRITE, tag 3 (40 R131). -/
  | regWrite (addr val : Byte)
  /-- REG_READ, tag 4 (40 R132). -/
  | regRead (addr : Byte)
  /-- QUERY, tag 5 (40 R133). -/
  | query (q : Byte)
  /-- SLICED_QUERY, tag 6 (40 R134). -/
  | slicedQuery (q : Byte)
  /-- PKT.TRACKPOINT (43 R234). -/
  | pktTrackpoint (p : Packet)
  /-- PKT.UNKNOWN.SANITY_CRC (43 R235). -/
  | pktUnknownSanityCrc (p : Packet)
  /-- PKT.STATUS.CRC (43 R231). -/
  | pktStatusCrc (p : Packet)
  /-- PKT.HEAD.CRC (43 R232). -/
  | pktHeadCrc (p : Packet)
  /-- PKT.MOTION.CRC (43 R233). -/
  | pktMotionCrc (p : Packet)
  /-- PKT.UNKNOWN.KIND3.CRC (43 R235). -/
  | pktUnknownKind3Crc (p : Packet)
  /-- PKT.STATUS.IC7_2A (43 R231). -/
  | pktStatusIc7 (p : Packet)
  /-- PKT.HEAD.IC7_2A (43 R232). -/
  | pktHeadIc7 (p : Packet)
  /-- PKT.MOTION.IC7_2A (43 R233). -/
  | pktMotionIc7 (p : Packet)
  /-- PKT.UNKNOWN.KIND3.IC7_2A (43 R235). -/
  | pktUnknownKind3Ic7 (p : Packet)
  /-- PKT.STATUS.DEFAULT (43 R231). -/
  | pktStatusDefault (p : Packet)
  /-- PKT.HEAD.DEFAULT (43 R232). -/
  | pktHeadDefault (p : Packet)
  /-- PKT.MOTION.DEFAULT (43 R233). -/
  | pktMotionDefault (p : Packet)
  /-- PKT.UNKNOWN.KIND3.DEFAULT (43 R235). -/
  | pktUnknownKind3Default (p : Packet)
  /-- PKT.UNKNOWN.SANITY (43 R235). -/
  | pktUnknownSanity (p : Packet)
deriving DecidableEq, Repr

end Sys2Proof
end

