-- ==== Sys2Proof/WellFormed.lean ====
section
/-! DEFINITION. Which instructions an encoding can carry. A transaction's fields are typed at their widths, so each is well
formed; a packet row's packet must have the header bits of that row (30 R83, R92). -/

namespace Sys2Proof

/-- The header of a passing packet in check mode CRC with kind field k: `p[3][3] = 0`, `p[3][1:0] = k` (30 R83, 42 R205). -/
def Packet.isCrc (p : Packet) (k : Byte) : Bool := p[3] &&& 0x0B == k

/-- The header of a passing packet in check mode IC7_2A with kind field k: `p[3][4:2] = 0b100` (30 R83, 42 R206). -/
def Packet.isIc7 (p : Packet) (k : Byte) : Bool := p[3] &&& 0x1F == 0x10 ||| k

/-- The header of a passing packet in check mode DEFAULT with kind field k: also `p[0][3] = 0` (30 R83, 42 R207). -/
def Packet.isDefault (p : Packet) (k : Byte) : Bool := p[0] &&& 0x08 == 0 && p[3] &&& 0x1F == 0x10 ||| k

/-- The packet fails the check of mode DEFAULT; a packet that fails IC7_2A fails it too (42 R206, R207). -/
def Packet.failsDefault (p : Packet) : Bool := !(p[0] &&& 0x08 == 0 && p[3] &&& 0x1C == 0x10)

/-- The instruction is one that some word decodes to. -/
def Instr.wellFormed : Instr → Bool
  | .reset => true
  | .profileLoad _ _ _ _ => true
  | .byteIn _ => true
  | .regWrite _ _ => true
  | .regRead _ => true
  | .query _ => true
  | .slicedQuery _ => true
  | .pktTrackpoint p => p[3] &&& 0x0F == 0x06
  | .pktUnknownSanityCrc p => p[3] &&& 0x08 == 0x08
  | .pktStatusCrc p => p.isCrc 0
  | .pktHeadCrc p => p.isCrc 1
  | .pktMotionCrc p => p.isCrc 2
  | .pktUnknownKind3Crc p => p.isCrc 3
  | .pktStatusIc7 p => p.isIc7 0
  | .pktHeadIc7 p => p.isIc7 1
  | .pktMotionIc7 p => p.isIc7 2
  | .pktUnknownKind3Ic7 p => p.isIc7 3
  | .pktStatusDefault p => p.isDefault 0
  | .pktHeadDefault p => p.isDefault 1
  | .pktMotionDefault p => p.isDefault 2
  | .pktUnknownKind3Default p => p.isDefault 3
  | .pktUnknownSanity p => p.failsDefault

end Sys2Proof
end

