-- ==== Sys2Proof/Decode.lean ====
section
/-! DEFINITION. Decoding and encoding (30_encoding.md). A transaction word decodes on its own, or is rejected by name; a packet
word decodes under the profile's mode, by the first matching row of the classification map (30 R92). Then the encoder. -/

namespace Sys2Proof

/-- Why a transaction word is refused (30 R93, 60 R279). -/
inductive Reject where
  /-- Tag 0x7 to 0xF. -/
  | reservedTag (tag : BitVec 4)
  /-- A nonzero bit in a must-be-0 field of the transaction with this tag. -/
  | mustBeZero (tag : BitVec 4)
deriving DecidableEq, Repr

/-- `T[63:60]` (30 R80). -/
def TxWord.tag (t : TxWord) : BitVec 4 := t.extractLsb' 60 4

/-- Decode one transaction word (30 R80, R93). -/
def decodeTx (t : TxWord) : Except Reject Instr :=
  if t.tag = 0x0 then
    if t.extractLsb' 0 60 = 0 then .ok .reset else .error (.mustBeZero t.tag)
  else if t.tag = 0x1 then
    if t.extractLsb' 56 4 = 0 ∧ t.extractLsb' 17 7 = 0 then
      .ok (.profileLoad (t.extractLsb' 32 24) (t.extractLsb' 24 8) (t.getLsbD 16) (t.extractLsb' 0 16))
    else .error (.mustBeZero t.tag)
  else if t.tag = 0x2 then
    if t.extractLsb' 8 52 = 0 then .ok (.byteIn (t.extractLsb' 0 8)) else .error (.mustBeZero t.tag)
  else if t.tag = 0x3 then
    if t.extractLsb' 16 44 = 0 then .ok (.regWrite (t.extractLsb' 8 8) (t.extractLsb' 0 8))
    else .error (.mustBeZero t.tag)
  else if t.tag = 0x4 then
    if t.extractLsb' 16 44 = 0 ∧ t.extractLsb' 0 8 = 0 then .ok (.regRead (t.extractLsb' 8 8))
    else .error (.mustBeZero t.tag)
  else if t.tag = 0x5 then
    if t.extractLsb' 8 52 = 0 then .ok (.query (t.extractLsb' 0 8)) else .error (.mustBeZero t.tag)
  else if t.tag = 0x6 then
    if t.extractLsb' 8 52 = 0 then .ok (.slicedQuery (t.extractLsb' 0 8)) else .error (.mustBeZero t.tag)
  else .error (.reservedTag t.tag)

/-- The packet word of six bytes, `p[0]` highest (30 R82). -/
def Packet.word (p : Packet) : PktWord := p[0] ++ p[1] ++ p[2] ++ p[3] ++ p[4] ++ p[5]

/-- The six bytes of a packet word (30 R82). -/
def Packet.ofWord (w : PktWord) : Packet :=
  #v[w.extractLsb' 40 8, w.extractLsb' 32 8, w.extractLsb' 24 8, w.extractLsb' 16 8, w.extractLsb' 8 8, w.extractLsb' 0 8]

/-- The rows of the packet part of the opcode table. -/
inductive PktRow where
  | trackpoint | sanityCrc
  | statusCrc | headCrc | motionCrc | kind3Crc
  | statusIc7 | headIc7 | motionIc7 | kind3Ic7
  | statusDefault | headDefault | motionDefault | kind3Default
  | sanity
deriving DecidableEq, Repr

/-- What classification reads of the profile (30 R94, 42 R203). -/
structure PktMode where
  tp    : Bool
  check : CheckMode
deriving DecidableEq, Repr

/-- The column "cond" of the classification map (30 R92). -/
inductive RowCond where
  | ifTrackPoint
  | ifCheck (c : CheckMode)
  | any
deriving DecidableEq, Repr

/-- The condition holds of the profile's mode. -/
def RowCond.holds (m : PktMode) : RowCond → Bool
  | .ifTrackPoint => m.tp
  | .ifCheck c => m.check == c
  | .any => true

/-- One row of the classification map (30 R92). -/
structure MapRow where
  row  : PktRow
  cond : RowCond
  mask : PktWord
  pat  : PktWord
deriving DecidableEq, Repr

/-- The row applies to the packet word under the mode. -/
def MapRow.hits (m : PktMode) (w : PktWord) (r : MapRow) : Bool := r.cond.holds m && w &&& r.mask == r.pat

/-- The classification map in priority order (30 R92). -/
def classificationMap : List MapRow :=
  [ ⟨.trackpoint,    .ifTrackPoint,     0x0000000F0000, 0x000000060000⟩,
    ⟨.sanityCrc,     .ifCheck .crc,     0x000000080000, 0x000000080000⟩,
    ⟨.statusCrc,     .ifCheck .crc,     0x0000000B0000, 0x000000000000⟩,
    ⟨.headCrc,       .ifCheck .crc,     0x0000000B0000, 0x000000010000⟩,
    ⟨.motionCrc,     .ifCheck .crc,     0x0000000B0000, 0x000000020000⟩,
    ⟨.kind3Crc,      .ifCheck .crc,     0x0000000B0000, 0x000000030000⟩,
    ⟨.statusIc7,     .ifCheck .ic7,     0x0000001F0000, 0x000000100000⟩,
    ⟨.headIc7,       .ifCheck .ic7,     0x0000001F0000, 0x000000110000⟩,
    ⟨.motionIc7,     .ifCheck .ic7,     0x0000001F0000, 0x000000120000⟩,
    ⟨.kind3Ic7,      .ifCheck .ic7,     0x0000001F0000, 0x000000130000⟩,
    ⟨.statusDefault, .ifCheck .default, 0x0800001F0000, 0x000000100000⟩,
    ⟨.headDefault,   .ifCheck .default, 0x0800001F0000, 0x000000110000⟩,
    ⟨.motionDefault, .ifCheck .default, 0x0800001F0000, 0x000000120000⟩,
    ⟨.kind3Default,  .ifCheck .default, 0x0800001F0000, 0x000000130000⟩,
    ⟨.sanity,        .any,              0x000000000000, 0x000000000000⟩ ]

/-- The row of a packet under a mode: the first row that applies (30 R92). The last row applies to every packet. -/
def decodeRow (m : PktMode) (p : Packet) : PktRow :=
  match classificationMap.find? (fun r => r.hits m p.word) with
  | some r => r.row
  | none => .sanity

/-- The instruction of a row and its packet. -/
def PktRow.instr (p : Packet) : PktRow → Instr
  | .trackpoint => .pktTrackpoint p
  | .sanityCrc => .pktUnknownSanityCrc p
  | .statusCrc => .pktStatusCrc p
  | .headCrc => .pktHeadCrc p
  | .motionCrc => .pktMotionCrc p
  | .kind3Crc => .pktUnknownKind3Crc p
  | .statusIc7 => .pktStatusIc7 p
  | .headIc7 => .pktHeadIc7 p
  | .motionIc7 => .pktMotionIc7 p
  | .kind3Ic7 => .pktUnknownKind3Ic7 p
  | .statusDefault => .pktStatusDefault p
  | .headDefault => .pktHeadDefault p
  | .motionDefault => .pktMotionDefault p
  | .kind3Default => .pktUnknownKind3Default p
  | .sanity => .pktUnknownSanity p

/-- Decode a packet under a mode. -/
def decodePacket (m : PktMode) (p : Packet) : Instr := (decodeRow m p).instr p

/-- What an instruction is read from: a transaction word, or the packet word that six BYTE_IN transactions make. -/
inductive Encoded where
  | tx (t : TxWord)
  | packet (w : PktWord)
deriving DecidableEq, Repr

/-- Decode either form; the mode plays a part for packets only. -/
def decode (m : PktMode) : Encoded → Except Reject Instr
  | .tx t => decodeTx t
  | .packet w => .ok (decodePacket m (.ofWord w))

/-! The encoder (30 R80, R82). -/

/-- The words of a well-formed instruction. -/
def encode : Instr → Encoded
  | .reset => .tx (0x0#4 ++ 0#60)
  | .profileLoad fw s1 tp ymax => .tx (0x1#4 ++ 0#4 ++ fw ++ s1 ++ 0#7 ++ BitVec.ofBool tp ++ ymax)
  | .byteIn b => .tx (0x2#4 ++ 0#52 ++ b)
  | .regWrite addr val => .tx (0x3#4 ++ 0#44 ++ addr ++ val)
  | .regRead addr => .tx (0x4#4 ++ 0#44 ++ addr ++ 0#8)
  | .query q => .tx (0x5#4 ++ 0#52 ++ q)
  | .slicedQuery q => .tx (0x6#4 ++ 0#52 ++ q)
  | .pktTrackpoint p => .packet p.word
  | .pktUnknownSanityCrc p => .packet p.word
  | .pktStatusCrc p => .packet p.word
  | .pktHeadCrc p => .packet p.word
  | .pktMotionCrc p => .packet p.word
  | .pktUnknownKind3Crc p => .packet p.word
  | .pktStatusIc7 p => .packet p.word
  | .pktHeadIc7 p => .packet p.word
  | .pktMotionIc7 p => .packet p.word
  | .pktUnknownKind3Ic7 p => .packet p.word
  | .pktStatusDefault p => .packet p.word
  | .pktHeadDefault p => .packet p.word
  | .pktMotionDefault p => .packet p.word
  | .pktUnknownKind3Default p => .packet p.word
  | .pktUnknownSanity p => .packet p.word

/-- A mode under which the instruction's row is chosen for its packet (30 R92); a transaction needs none. The priority 4 row is
what check mode DEFAULT gives to every packet that fails it. -/
def Instr.mode : Instr → PktMode
  | .pktTrackpoint _ => ⟨true, .default⟩
  | .pktUnknownSanityCrc _ | .pktStatusCrc _ | .pktHeadCrc _ | .pktMotionCrc _ | .pktUnknownKind3Crc _ => ⟨false, .crc⟩
  | .pktStatusIc7 _ | .pktHeadIc7 _ | .pktMotionIc7 _ | .pktUnknownKind3Ic7 _ => ⟨false, .ic7⟩
  | .pktStatusDefault _ | .pktHeadDefault _ | .pktMotionDefault _ | .pktUnknownKind3Default _
  | .pktUnknownSanity _ => ⟨false, .default⟩
  | .reset | .profileLoad _ _ _ _ | .byteIn _ | .regWrite _ _ | .regRead _ | .query _ | .slicedQuery _ => ⟨false, .default⟩

/-! Reading the opcode table's rows from a bare number. -/

/-- The mode a bare packet word of the opcode table is read under, since the table's number carries no profile: a low nibble 6
as TrackPoint; the constant field 0b100 as IC7_2A when no bit of `p[0]` is given or `p[0][3] = 1`, as DEFAULT otherwise;
every other header as CRC; and DEFAULT where not even `p[3]` is given. DESIGN CHOICE (log 16). -/
def tableMode (nbits : Nat) (p : Packet) : PktMode :=
  if nbits ≤ 16 then ⟨false, .default⟩
  else if p[3] &&& 0x0F = 0x06 then ⟨true, .default⟩
  else if p[3] &&& 0x1C = 0x10 then
    if nbits ≤ 40 ∨ p[0] &&& 0x08 = 0x08 then ⟨false, .ic7⟩ else ⟨false, .default⟩
  else ⟨false, .crc⟩

/-- The instruction read from the opcode table's bits of a row: up to 48 bits a packet word, up to 64 a transaction word. -/
def decodeTableWord (nbits w : Nat) : Option Instr :=
  if nbits ≤ 48 then
    let p := Packet.ofWord (BitVec.ofNat 48 w)
    some (decodePacket (tableMode nbits p) p)
  else if nbits ≤ 64 then
    match decodeTx (BitVec.ofNat 64 w) with
    | .ok i => some i
    | .error _ => none
  else none

end Sys2Proof
end

