-- ==== Sys2Proof/Machine/State.lean ====
section
/-! DEFINITION. The machine's state: the block's registers (10_state.md), the serializer's request, the agents' moves still to
come, the ports' histories, and the state after reset (10 R42). Plain data throughout. -/

namespace Sys2Proof.Machine

/-- Why the machine stops. All three are safe: the spec's agents and reachable states never give one. -/
inductive Fault where
  /-- Raised by a turn: the channel answers though every Transfer issued has its answer, which its contract excludes (60 R286).
  The answer to a Transfer that a RESET abandoned is none such (log 30). Safe (log 10). -/
  | strayAnswer
  /-- Raised when a read or a query ends without a 3-byte last reply, or an answer comes past the plan's end, in a state no run
  reaches under well-formed plans (40 R121). Safe (log 13). -/
  | serializerCorrupt
  /-- Raised by REG_WRITE, REG_READ and QUERY when `cfg_valid = 1` with a firmware of no generation, which PROFILE_LOAD never
  leaves (41 R165). Safe (log 13). -/
  | unmappedProfile
deriving DecidableEq, Repr

/-- Why an instruction has no meaning in the model. -/
inductive Refusal where
  /-- Raised by an arm of exec whose instruction is not modelled yet, by its mnemonic. Safe. -/
  | notModelled (mnemonic : String)
deriving DecidableEq, Repr

/-- The channel's answer to a Transfer (40 R123). -/
inductive ChanAnswer where
  | ok (r : List Byte)
  | fail
deriving DecidableEq, Repr

/-- One move of an agent (00 R8). DESIGN CHOICE (log 1). -/
inductive Turn where
  /-- The host, or for a BYTE_IN the byte source, presents a word. -/
  | present (w : TxWord)
  /-- The channel gives its answer to the Transfer of the request in flight. With no request in flight it is an answer still
  owed to a Transfer that a RESET abandoned. DESIGN CHOICE (log 30). -/
  | channel (a : ChanAnswer)
  /-- The channel gives its answer to a Transfer that a RESET abandoned before it was answered. DESIGN CHOICE (log 30). -/
  | late (a : ChanAnswer)
  /-- The block makes a move of its own, if it has one. -/
  | block
deriving DecidableEq, Repr

/-- What the block puts on the channel (10 R35). -/
inductive ChanOut where
  | transfer (cmds : List Byte) (n : Nat)
  | wait (d : Nat)
deriving DecidableEq, Repr

/-- The errors of 60 R270. The last two are the host's alone. -/
inductive Err where
  | invalidRegister (addr : Byte)
  | transferFail (step : Nat) (attempts : Byte)
  | notConfigured
  | unknownHardware (fw : Firmware)
  | notElantech
  | geometryFail
deriving DecidableEq, Repr

/-- A result record on the host port (30 R100). -/
inductive Result where
  | ok
  | okByte (v : Byte)
  | okBytes (r0 r1 r2 : Byte)
  | err (e : Err)
deriving DecidableEq, Repr

/-- An event of a packet's record (30 R98). -/
inductive PacketEvent where
  | fingersSync (mask : Mask)
  | fingerUpdate (slot : Slot) (x y : Coord)
  | fingerLift (slot : Slot)
  | ignored
deriving DecidableEq, Repr

/-- The record of one completed packet (30 R99). -/
structure PacketOutput where
  kind   : PacketKind
  raw    : Packet
  events : List PacketEvent
deriving DecidableEq, Repr

/-- Where Execute stands inside the current step (40 R122, 60 R285). DESIGN CHOICE (log 7). -/
inductive SerPhase where
  /-- The next move issues the step's Transfer. -/
  | issue
  /-- The Transfer is issued; its answer is to come. -/
  | answer
  /-- The Transfer failed and is to be retried; the next move is the Wait. -/
  | wait
deriving DecidableEq, Repr

structure State where
  /-- The implementation parameters, fixed for a run (00 R7; log 5). -/
  par : Params
  /-- `flt_unconfigured` (10 R23). -/
  fltUnconfigured : Bool
  /-- `flt_unsupported` (10 R23). -/
  fltUnsupported : Bool
  /-- `cfg_valid` (10 R24). -/
  cfgValid : Bool
  /-- `cfg_fw` (10 R24). -/
  cfgFw : Firmware
  /-- `cfg_s1` (10 R24). -/
  cfgS1 : Byte
  /-- `cfg_tp` (10 R24). -/
  cfgTp : Bool
  /-- `cfg_ymax` (10 R24). -/
  cfgYmax : BitVec 16
  /-- `slot_x[0..4]` (10 R30). -/
  slotX : Vector Coord 5
  /-- `slot_y[0..4]` (10 R30). -/
  slotY : Vector Coord 5
  /-- `live[0..4]` (10 R31). -/
  live : Mask
  /-- `track[0..4]` (10 R32). -/
  track : Mask
  /-- `fr_buf[0..5]` (10 R40). -/
  frBuf : Packet
  /-- `fr_count`, 0 to 5 (10 R40). -/
  frCount : Fin 6
  /-- `ser_busy` (10 R41). -/
  serBusy : Bool
  /-- `ser_plan` (10 R41). -/
  serPlan : List SerStep
  /-- `ser_idx` (10 R41). -/
  serIdx : Nat
  /-- `ser_try` (10 R41). -/
  serTry : Byte
  /-- `ser_rep`, one reply list for each completed step (10 R41, 40 R122). -/
  serRep : List (List Byte)
  /-- `ser_req` (10 R41). -/
  serReq : Req
  /-- The point Execute has reached in the current step (40 R122). -/
  serPhase : SerPhase
  /-- How many Transfers a RESET abandoned whose answers the channel still owes (60 R286, 70 R300; log 30). -/
  owed : Nat
  /-- The words presented while a request is in flight, oldest first (20 R72). -/
  waiting : List TxWord
  /-- The agents' moves still to come, in order (00 R8). -/
  turns : List Turn
  /-- The records on the event port so far, oldest first (10 R37, 70 R312). -/
  evOut : List PacketOutput
  /-- The results on the host port so far, oldest first (10 R38, 70 R312). -/
  results : List Result
  /-- The Transfers and Waits on the channel so far, oldest first (10 R35, 70 R312). -/
  chanOut : List ChanOut
  /-- The run-wide mark of a refused word (60 R279). -/
  refusedMark : Bool
  /-- How many times RESET has drawn free values: the model's own field (log 4). -/
  freeCount : Nat
deriving DecidableEq, Repr

/-- The machine right after reset (10 R42). The elements the spec leaves unspecified are zero or empty: DESIGN CHOICE (log 3).
Nothing is presented and nothing is on the ports. -/
def State.reset : State where
  par := .default
  fltUnconfigured := false
  fltUnsupported := false
  cfgValid := false
  cfgFw := 0
  cfgS1 := 0
  cfgTp := false
  cfgYmax := 0
  slotX := .replicate 5 0
  slotY := .replicate 5 0
  live := 0
  track := 0
  frBuf := .replicate 6 0
  frCount := 0
  serBusy := false
  serPlan := []
  serIdx := 0
  serTry := 0
  serRep := []
  serReq := .slicedQuery 0
  serPhase := .issue
  owed := 0
  waiting := []
  turns := []
  evOut := []
  results := []
  chanOut := []
  refusedMark := false
  freeCount := 0

end Sys2Proof.Machine
end

