-- ==== Sys2Proof/Machine/Ops.lean ====
section
/-! DEFINITION. The named operations the rules are written in (00 R11): the derived signals of the profile, the event and
result ports, `raise`, the frame buffer and slot writes, and the status port. -/

namespace Sys2Proof.Machine

/-- `GenOf` (41 R160); none is the source's Unknown. -/
def genOf (fw : Firmware) : Option Gen :=
  if fw < 0x020030 ∨ fw = 0x020600 then some .v1
  else
    let ver : BitVec 4 := fw.extractLsb' 16 4
    if ver = 2 ∨ ver = 4 then some .v2
    else if ver = 5 then some .v3
    else if 6 ≤ ver then some .v4
    else none

/-- `gen`, defined while `cfg_valid = 1` (10 R25). -/
def State.gen (s : State) : Option Gen := if s.cfgValid then genOf s.cfgFw else none

/-- `crc_enabled` (10 R26). -/
def State.crcEnabled (s : State) : Bool := s.cfgFw.getLsbD 14

/-- `ic_version` (10 R27). -/
def State.icVersion (s : State) : BitVec 4 := s.cfgFw.extractLsb' 16 4

/-- `check_mode` (10 R29). -/
def State.checkMode (s : State) : CheckMode :=
  if s.crcEnabled then .crc
  else if s.icVersion = 7 ∧ s.cfgS1 = 0x2A then .ic7
  else .default

/-- What classification reads of the profile (42 R203). -/
def State.pktMode (s : State) : PktMode := ⟨s.cfgTp, s.checkMode⟩

/-- `reg_dialect` of a generation (10 R28). -/
def regDialect : Gen → Dialect
  | .v1 => .slicedPS2
  | .v2 | .v3 | .v4 => .directElan

/-- `query_dialect` of a generation (10 R28, 90 C1). -/
def queryDialect : Gen → Dialect
  | .v1 | .v2 => .slicedPS2
  | .v3 | .v4 => .directElan

/-- The numeric code of an error (60 R270). -/
def Err.code : Err → Nat
  | .invalidRegister _ => 1
  | .transferFail _ _ => 2
  | .notConfigured => 3
  | .unknownHardware _ => 4
  | .notElantech => 5
  | .geometryFail => 6

/-- The numeric code of a result; 0 is Ok (60 R270). -/
def Result.code : Result → Nat
  | .ok | .okByte _ | .okBytes _ _ _ => 0
  | .err e => e.code

/-- The numeric code of a packet kind (30 R97). -/
def kindCode : PacketKind → Nat
  | .unknown => 0
  | .trackPoint => 1
  | .status => 2
  | .head => 3
  | .motion => 4

/-- `emit(o)` (00 R11). -/
def State.emit (s : State) (o : PacketOutput) : State := { s with evOut := s.evOut ++ [o] }

/-- `result(v)` (00 R11). -/
def State.result (s : State) (r : Result) : State := { s with results := s.results ++ [r] }

/-- `raise E(info)`: the transaction completes with an error result; no state is saved and control goes nowhere (60 R281). -/
def State.raise (s : State) (e : Err) : State := s.result (.err e)

/-- A Transfer or a Wait put on the channel (10 R35). -/
def State.sendChannel (s : State) (o : ChanOut) : State := { s with chanOut := s.chanOut ++ [o] }

/-- `slot_x[i] <- x; slot_y[i] <- y` (10 R30). -/
def State.setSlot (s : State) (i : Slot) (x y : Coord) : State :=
  { s with slotX := s.slotX.set i.val x, slotY := s.slotY.set i.val y }

/-- `fr_buf[fr_count] <- b` (42 R200). -/
def State.putByte (s : State) (b : Byte) : State := { s with frBuf := s.frBuf.set s.frCount.val b }

/-- `fr_count <- fr_count + 1`, and 0 after the sixth byte (42 R200, R201). -/
def State.advanceFrame (s : State) : State := { s with frCount := s.frCount + 1 }

/-- What the status port shows (10 R39), with the profile registers of 10 R24 while a profile is loaded (log 17). -/
structure StatusPort where
  fltUnconfigured : Bool
  fltUnsupported : Bool
  cfgValid : Bool
  gen : Option Gen
  checkMode : Option CheckMode
  busy : Bool
  profile : Option (Firmware × Byte × Bool × BitVec 16)
deriving DecidableEq, Repr

/-- The status port; reading it changes nothing (10 R39). -/
def State.status (s : State) : StatusPort where
  fltUnconfigured := s.fltUnconfigured
  fltUnsupported := s.fltUnsupported
  cfgValid := s.cfgValid
  gen := s.gen
  checkMode := if s.gen = some .v4 then some s.checkMode else none
  busy := s.serBusy
  profile := if s.cfgValid then some (s.cfgFw, s.cfgS1, s.cfgTp, s.cfgYmax) else none

end Sys2Proof.Machine
end

