-- ==== Sys2Proof/Machine/Operands.lean ====
section
/-! DEFINITION. The operand forms: the fields of a packet (30 R83 to R90), slot ids (30 R87), the sliced encoding (30 R96), the
address check (40 R120) and the command plans with their operands filled in (40 R121 to R130). -/

namespace Sys2Proof.Machine

/-- `sid(f) = zext(f) - 1`, in -1 to 6 (30 R87). -/
def sid (f : BitVec 3) : Int := (f.toNat : Int) - 1

/-- The slot of an id in `[0, MAX_FINGERS)` (30 R87). -/
def slotOfId (i : Int) : Option Slot := if h : 0 ≤ i ∧ i < 5 then some ⟨i.toNat, by omega⟩ else none

/-- The mask of a Status packet, `p[1][4:0]` (30 R84). -/
def statusMask (p : Packet) : Mask := p[1].extractLsb' 0 5

/-- The slot field of a Head packet, and the secondary slot field of a Motion packet, `p[3][7:5]` (30 R85, R86). -/
def slotField3 (p : Packet) : BitVec 3 := p[3].extractLsb' 5 3

/-- The primary slot field of a Motion packet, `p[0][7:5]` (30 R86). -/
def slotField0 (p : Packet) : BitVec 3 := p[0].extractLsb' 5 3

/-- The Head's x, 12 bits, high bits from the lower byte (30 R88, 20 R62). -/
def headX (p : Packet) : Coord := (p[1].extractLsb' 0 4 ++ p[2]).setWidth 32

/-- The Head's raw y, 12 bits (30 R88, 20 R62). -/
def headYRaw (p : Packet) : Coord := (p[4].extractLsb' 0 4 ++ p[5]).setWidth 32

/-- The Head's y: inverted against `cfg_ymax`, modulo 2^32, not clamped (30 R88). -/
def headY (ymax : BitVec 16) (p : Packet) : Coord := ymax.setWidth 32 - headYRaw p

/-- A Motion delta, one sign-extended byte (30 R89). -/
def delta (b : Byte) : Coord := b.signExtend 32

/-- The Motion weight: `WEIGHT` when `p[0][4] = 1`, else 1 (30 R90). -/
def motionWeight (weight : Coord) (p : Packet) : Coord := if p[0].getLsbD 4 then weight else 1

/-- `AddrOK` (40 R120). -/
def addrOK (a : Byte) : Bool := (0x07 ≤ a && a ≤ 0x11) || (0x20 ≤ a && a ≤ 0x26)

/-- The value of a named command (30 R95). -/
def cmdByte (par : Params) : CmdName → Byte
  | .setRes => par.cmdSetRes
  | .setScale11 => par.cmdSetScale11
  | .getInfo => par.cmdGetInfo
  | .custom => par.cmdCustom
  | .opRegRead => par.opRegRead
  | .opRegWrite => par.opRegWrite

/-- `Slice(b)`: four 2-bit chunks, most significant pair first (30 R96, 20 R63). -/
def slice (par : Params) (b : Byte) : List Byte :=
  par.slicedPrefix ++
    [par.cmdSetRes, (b.extractLsb' 6 2).setWidth 8, par.cmdSetRes, (b.extractLsb' 4 2).setWidth 8,
     par.cmdSetRes, (b.extractLsb' 2 2).setWidth 8, par.cmdSetRes, (b.extractLsb' 0 2).setWidth 8]

/-- A request's operand as a plan reads it; an operand the request does not have is 0, and no default plan names one. -/
def reqByte : Req → PlanByte → Byte
  | .write a _, .addr => a
  | .write _ v, .val => v
  | .read a, .addr => a
  | .query q, .query => q
  | .slicedQuery q, .query => q
  | _, .lit b => b
  | _, _ => 0

/-- The value of a plan byte for a request. -/
def planByte (par : Params) (r : Req) : PlanByte → Byte
  | .cmd c => cmdByte par c
  | b => reqByte r b

/-- The bytes of a plan piece on the wire. -/
def planPiece (par : Params) (r : Req) : PlanPiece → List Byte
  | .plain b => [planByte par r b]
  | .sliced b => slice par (planByte par r b)

/-- A step with its operands filled in (40 R121). -/
def planStep (par : Params) (r : Req) (st : PlanStep) : SerStep :=
  { cmds := st.cmds.flatMap (planPiece par r), n := st.n, retry := st.retry }

/-- The row of `SerializerTable` for a register write (40 R124 to R126). -/
def SerializerTable.write (t : SerializerTable) : Gen → List PlanStep
  | .v1 => t.writeV1
  | .v2 => t.writeV2
  | .v3 => t.writeV3
  | .v4 => t.writeV4

/-- The row of `SerializerTable` for a register read (40 R127, R128). -/
def SerializerTable.read (t : SerializerTable) : Gen → List PlanStep
  | .v1 => t.readV1
  | .v2 => t.readV2
  | .v3 => t.readV3
  | .v4 => t.readV4

/-- The row of `SerializerTable` for a query in a dialect (40 R130). -/
def SerializerTable.queryIn (t : SerializerTable) : Dialect → List PlanStep
  | .slicedPS2 => t.slicedQuery
  | .directElan => t.directQuery

/-- `WritePlan(gen, a, v)` (40 R124 to R126). -/
def writePlan (par : Params) (g : Gen) (a v : Byte) : List SerStep :=
  (SerializerTable.write par.table g).map (planStep par (.write a v))

/-- `ReadPlan(gen, a)` (40 R127, R128). -/
def readPlan (par : Params) (g : Gen) (a : Byte) : List SerStep :=
  (SerializerTable.read par.table g).map (planStep par (.read a))

/-- `SlicedQueryPlan(q)` or `DirectQueryPlan(q)`, by dialect (40 R130). -/
def queryPlan (par : Params) (d : Dialect) (q : Byte) : List SerStep :=
  (SerializerTable.queryIn par.table d).map (planStep par (.query q))

/-- `SlicedQueryPlan(q)` of a SLICED_QUERY (40 R130, R134). -/
def slicedQueryPlan (par : Params) (q : Byte) : List SerStep :=
  par.table.slicedQuery.map (planStep par (.slicedQuery q))

/-- What a Transfer expecting n bytes returns for an answer: fewer than n bytes is Fail, and n bytes are read back
(40 R123; log 9). -/
def transferReply (n : Nat) : ChanAnswer → Option (List Byte)
  | .ok r => if n ≤ r.length then some (r.take n) else none
  | .fail => none

/-- The value of a register read from its last reply: `r[1]` for V4, `r[0]` otherwise (40 R129). -/
def readValue (g : Option Gen) (r0 r1 : Byte) : Byte := if g = some .v4 then r1 else r0

end Sys2Proof.Machine
end

