-- ==== Sys2Proof/Machine/Flags.lean ====
section
/-! DEFINITION. The flag-like state (10 R22): the sticky fault bits and the `live` and `track` masks. The block has no
condition codes. -/

namespace Sys2Proof.Machine

/-- `fault flt_unconfigured`: set, and only RESET clears it (10 R23). -/
def State.faultUnconfigured (s : State) : State := { s with fltUnconfigured := true }

/-- `fault flt_unsupported`: set, and only RESET clears it (10 R23). -/
def State.faultUnsupported (s : State) : State := { s with fltUnsupported := true }

/-- The mask of one slot. -/
def slotBit (i : Slot) : Mask := 1#5 <<< i.val

/-- The Head's liveness: `live[i] <- 1; track[i] <- 1` (43 R232). -/
def State.markSlot (s : State) (i : Slot) : State :=
  { s with live := s.live ||| slotBit i, track := s.track ||| slotBit i }

/-- The Status's liveness: `live <- mask; track <- track & mask` (43 R231). -/
def State.statusMasks (s : State) (m : Mask) : State := { s with live := m, track := s.track &&& m }

/-- The lifts of a Status: the live slots absent from the mask, ascending (43 R231). -/
def lifts (live m : Mask) : List PacketEvent :=
  ((List.finRange 5).filter (fun i => live.getLsbD i.val && !m.getLsbD i.val)).map .fingerLift

/-- `live <- 0; track <- 0` (41 R165, 70 R300). -/
def State.clearMasks (s : State) : State := { s with live := 0, track := 0 }

end Sys2Proof.Machine
end

