-- ==== Sys2Proof/Machine/Control.lean ====
section
/-! DEFINITION. The system transactions: RESET (70 R300) and PROFILE_LOAD (41 R165). -/

namespace Sys2Proof.Machine

/-- The elements RESET leaves unspecified take free values (10 R42, 70 R300; log 4). -/
def State.freeUnspecified (s : State) : State :=
  let u := Config.unspecified s.freeCount
  { s with
    cfgFw := u.cfgFw, cfgS1 := u.cfgS1, cfgTp := u.cfgTp, cfgYmax := u.cfgYmax
    frBuf := #v[u.frBuf 0, u.frBuf 1, u.frBuf 2, u.frBuf 3, u.frBuf 4, u.frBuf 5]
    slotX := #v[u.slotX 0, u.slotX 1, u.slotX 2, u.slotX 3, u.slotX 4]
    slotY := #v[u.slotY 0, u.slotY 1, u.slotY 2, u.slotY 3, u.slotY 4]
    serPlan := u.serPlan, serIdx := u.serIdx, serTry := u.serTry, serRep := u.serRep, serReq := u.serReq
    freeCount := s.freeCount + 1 }

/-- A request in flight is abandoned without a result (70 R300). A Transfer that awaits its answer goes on being owed it, since
the channel answers every Transfer (60 R286). DESIGN CHOICE (log 30). -/
def State.abandonRequest (s : State) : State :=
  { s with serBusy := false, owed := if s.serBusy ∧ s.serPhase = .answer then s.owed + 1 else s.owed }

/-- The state RESET leaves (70 R300). The words already waiting stay presented, the ports keep what they have shown, and the
run-wide mark stays (log 11, log 12, log 14). -/
def State.afterReset (s : State) : State :=
  { s.abandonRequest.freeUnspecified.clearMasks with
    fltUnconfigured := false, fltUnsupported := false, cfgValid := false, frCount := 0 }

/-- RESET (70 R300): it is accepted in every state. -/
def execReset (s : State) : Host.Outcome State Fault Refusal := .next s.afterReset

/-- PROFILE_LOAD (41 R165): the frame and the masks are cleared always; an unmapped firmware leaves no profile. -/
def execProfileLoad (fw : Firmware) (s1 : Byte) (tp : Bool) (ymax : BitVec 16) (s : State) :
    Host.Outcome State Fault Refusal :=
  let s0 : State := { s.clearMasks with frCount := 0 }
  match genOf fw with
  | none => .next ({ s0 with cfgValid := false }.raise (.unknownHardware fw))
  | some _ =>
    .next ({ s0 with cfgFw := fw, cfgS1 := s1, cfgTp := tp, cfgYmax := ymax, cfgValid := true }.result .ok)

end Sys2Proof.Machine
end

