-- ==== Sys2Proof/Machine/Multitouch.lean ====
section
/-! DEFINITION. The multi-touch decoder (43_multitouch.md): one decode per packet kind, and the meaning of each packet row of the
opcode table, which is the completion of a packet the decoder has put in that row (42 R202). -/

namespace Sys2Proof.Machine

/-- DecodeStatus (43 R231). -/
def decodeStatus (p : Packet) (s : State) : State × List PacketEvent :=
  (s.statusMasks (statusMask p), lifts s.live (statusMask p) ++ [.fingersSync (statusMask p)])

/-- DecodeHead (43 R232); an id out of range drops the packet (R236). -/
def decodeHead (p : Packet) (s : State) : State × List PacketEvent :=
  match slotOfId (sid (slotField3 p)) with
  | none => (s, [.ignored])
  | some i =>
    let s' := (s.setSlot i (headX p) (headY s.cfgYmax p)).markSlot i
    (s', [.fingerUpdate i (headX p) (headY s.cfgYmax p), .fingersSync s'.live])

/-- Apply(i, dx, dy) under weight w: only to a tracking slot; dy subtracts (43 R233). -/
def applyDelta (w : Coord) (i : Slot) (dx dy : Coord) (s : State) : State × List PacketEvent :=
  if s.track.getLsbD i.val then
    let x := s.slotX[i] + dx * w
    let y := s.slotY[i] - dy * w
    (s.setSlot i x y, [.fingerUpdate i x y])
  else (s, [])

/-- Apply for an optional slot: no secondary slot takes no delta (43 R233). -/
def applyDelta? (w : Coord) (i : Option Slot) (dx dy : Coord) (s : State) : State × List PacketEvent :=
  match i with
  | none => (s, [])
  | some i => applyDelta w i dx dy s

/-- DecodeMotion (43 R233): a primary id outside 0 to 4, or a secondary id of 5 or 6, drops the packet (R236). -/
def decodeMotion (p : Packet) (s : State) : State × List PacketEvent :=
  match slotOfId (sid (slotField0 p)) with
  | none => (s, [.ignored])
  | some i =>
    if 5 ≤ sid (slotField3 p) then (s, [.ignored])
    else
      let w := motionWeight s.par.weight p
      let first := applyDelta w i (delta p[1]) (delta p[2]) s
      let second := applyDelta? w (slotOfId (sid (slotField3 p))) (delta p[4]) (delta p[5]) first.1
      (second.1, first.2 ++ second.2 ++ [.fingersSync s.live])

/-- Decode of a TrackPoint packet (43 R234). -/
def decodeTrackPoint (_p : Packet) (s : State) : State × List PacketEvent := (s, [.ignored])

/-- Decode of an Unknown packet (43 R235). -/
def decodeUnknown (_p : Packet) (s : State) : State × List PacketEvent := (s, [.ignored])

/-- `Decode(k, p)` (43 R230). -/
def decodeKind (k : PacketKind) (p : Packet) (s : State) : State × List PacketEvent :=
  match k with
  | .status => decodeStatus p s
  | .head => decodeHead p s
  | .motion => decodeMotion p s
  | .trackPoint => decodeTrackPoint p s
  | .unknown => decodeUnknown p s

/-- The completion of a packet of kind k (42 R202): `fr_count <- 0`, the decode, and one record. -/
def completePacket (k : PacketKind) (p : Packet) (s : State) : State :=
  let d := decodeKind k p { s with frCount := 0 }
  d.1.emit { kind := k, raw := p, events := d.2 }

/-! The packet rows. The check of the profile that selects a row is the decoder's (30 R92; log 15). -/

/-- PKT.TRACKPOINT (43 R234). -/
def execPktTrackpoint (p : Packet) (s : State) : Host.Outcome State Fault Refusal := .next (completePacket .trackPoint p s)

/-- PKT.UNKNOWN.SANITY_CRC (43 R235, 42 R205). -/
def execPktUnknownSanityCrc (p : Packet) (s : State) : Host.Outcome State Fault Refusal := .next (completePacket .unknown p s)

/-- PKT.STATUS.CRC (43 R231). -/
def execPktStatusCrc (p : Packet) (s : State) : Host.Outcome State Fault Refusal := .next (completePacket .status p s)

/-- PKT.HEAD.CRC (43 R232). -/
def execPktHeadCrc (p : Packet) (s : State) : Host.Outcome State Fault Refusal := .next (completePacket .head p s)

/-- PKT.MOTION.CRC (43 R233). -/
def execPktMotionCrc (p : Packet) (s : State) : Host.Outcome State Fault Refusal := .next (completePacket .motion p s)

/-- PKT.UNKNOWN.KIND3.CRC (43 R235, 42 R208). -/
def execPktUnknownKind3Crc (p : Packet) (s : State) : Host.Outcome State Fault Refusal := .next (completePacket .unknown p s)

/-- PKT.STATUS.IC7_2A (43 R231). -/
def execPktStatusIc7 (p : Packet) (s : State) : Host.Outcome State Fault Refusal := .next (completePacket .status p s)

/-- PKT.HEAD.IC7_2A (43 R232). -/
def execPktHeadIc7 (p : Packet) (s : State) : Host.Outcome State Fault Refusal := .next (completePacket .head p s)

/-- PKT.MOTION.IC7_2A (43 R233). -/
def execPktMotionIc7 (p : Packet) (s : State) : Host.Outcome State Fault Refusal := .next (completePacket .motion p s)

/-- PKT.UNKNOWN.KIND3.IC7_2A (43 R235, 42 R208). -/
def execPktUnknownKind3Ic7 (p : Packet) (s : State) : Host.Outcome State Fault Refusal := .next (completePacket .unknown p s)

/-- PKT.STATUS.DEFAULT (43 R231). -/
def execPktStatusDefault (p : Packet) (s : State) : Host.Outcome State Fault Refusal := .next (completePacket .status p s)

/-- PKT.HEAD.DEFAULT (43 R232). -/
def execPktHeadDefault (p : Packet) (s : State) : Host.Outcome State Fault Refusal := .next (completePacket .head p s)

/-- PKT.MOTION.DEFAULT (43 R233). -/
def execPktMotionDefault (p : Packet) (s : State) : Host.Outcome State Fault Refusal := .next (completePacket .motion p s)

/-- PKT.UNKNOWN.KIND3.DEFAULT (43 R235, 42 R208). -/
def execPktUnknownKind3Default (p : Packet) (s : State) : Host.Outcome State Fault Refusal :=
  .next (completePacket .unknown p s)

/-- PKT.UNKNOWN.SANITY (43 R235, 42 R206, R207). -/
def execPktUnknownSanity (p : Packet) (s : State) : Host.Outcome State Fault Refusal := .next (completePacket .unknown p s)

end Sys2Proof.Machine
end

