-- ==== Sys2Proof/Machine/Framer.lean ====
section
/-! DEFINITION. The packet framer (42_framer.md): BYTE_IN, the sanity checks and the classifier. The machine picks a packet's row
by the classification map (30 R92) and runs that row; Classify is the same map as 42 R203 words it. -/

namespace Sys2Proof.Machine

/-- SanityOK under a check mode (42 R203, R205 to R207). -/
def sanityOK (c : CheckMode) (p : Packet) : Bool :=
  match c with
  | .crc => p[3] &&& 0x08 == 0
  | .ic7 => p[3] &&& 0x1C == 0x10
  | .default => p[0] &&& 0x08 == 0 && p[3] &&& 0x1C == 0x10

/-- Classify under a mode (42 R203, R204, R208). -/
def classify (m : PktMode) (p : Packet) : PacketKind :=
  if m.tp ∧ p[3] &&& 0x0F = 0x06 then .trackPoint
  else if sanityOK m.check p then
    if p[3] &&& 0x03 = 0 then .status
    else if p[3] &&& 0x03 = 1 then .head
    else if p[3] &&& 0x03 = 2 then .motion
    else .unknown
  else .unknown

/-- The kind each packet row stands for (30 R92). -/
def rowKind : PktRow → PacketKind
  | .trackpoint => .trackPoint
  | .statusCrc | .statusIc7 | .statusDefault => .status
  | .headCrc | .headIc7 | .headDefault => .head
  | .motionCrc | .motionIc7 | .motionDefault => .motion
  | .sanityCrc | .kind3Crc | .kind3Ic7 | .kind3Default | .sanity => .unknown

/-- Run the row of a completed packet. -/
def execRow (r : PktRow) (p : Packet) (s : State) : Host.Outcome State Fault Refusal :=
  match r with
  | .trackpoint => execPktTrackpoint p s
  | .sanityCrc => execPktUnknownSanityCrc p s
  | .statusCrc => execPktStatusCrc p s
  | .headCrc => execPktHeadCrc p s
  | .motionCrc => execPktMotionCrc p s
  | .kind3Crc => execPktUnknownKind3Crc p s
  | .statusIc7 => execPktStatusIc7 p s
  | .headIc7 => execPktHeadIc7 p s
  | .motionIc7 => execPktMotionIc7 p s
  | .kind3Ic7 => execPktUnknownKind3Ic7 p s
  | .statusDefault => execPktStatusDefault p s
  | .headDefault => execPktHeadDefault p s
  | .motionDefault => execPktMotionDefault p s
  | .kind3Default => execPktUnknownKind3Default p s
  | .sanity => execPktUnknownSanity p s

/-- BYTE_IN (42 R200): a byte under no profile or no V4 profile sets a fault bit and is lost; the sixth accepted byte completes
the packet in the same step (20 R69, 42 R202). The packet is `fr_buf` in arrival order, as the pseudocode of 42 R200 and 20 R61
have it: DESIGN CHOICE (log 32) against the example in 42 R200, whose bytes do not give the record it shows. -/
def execByteIn (b : Byte) (s : State) : Host.Outcome State Fault Refusal :=
  if ¬ s.cfgValid then .next s.faultUnconfigured
  else if s.gen ≠ some .v4 then .next s.faultUnsupported
  else if s.frCount.val < 5 then .next (s.putByte b).advanceFrame
  else
    let s' := (s.putByte b).advanceFrame
    execRow (decodeRow s.pktMode s'.frBuf) s'.frBuf s'

end Sys2Proof.Machine
end

