-- ==== Sys2Proof/Machine/Serializer.lean ====
section
/-! DEFINITION. The serializer's Execute (40 R122) as single moves: a request starts, each Transfer is issued and answered, each
Wait is made between two attempts, and the request ends with its result. -/

namespace Sys2Proof.Machine

/-- `Execute(plan)` begins: `ser_busy <- 1`, the first step, the first attempt, no reply yet (40 R122). -/
def State.startRequest (s : State) (r : Req) (plan : List SerStep) : State :=
  { s with serBusy := true, serPlan := plan, serIdx := 0, serTry := 1, serRep := [], serReq := r, serPhase := .issue }

/-- The request completes: `ser_busy <- 0` and its result goes to the host port (40 R122). -/
def State.endRequest (s : State) (r : Result) : State := { s with serBusy := false }.result r

/-- The result of a request whose plan is done: Ok of a write, the value of a read, the three bytes of a query
(40 R131 to R134); none when the last reply is not the three bytes a read or query plan ends with. -/
def requestResult (g : Option Gen) (req : Req) (rep : List (List Byte)) : Option Result :=
  match req, rep.getLast? with
  | .write _ _, _ => some .ok
  | .read _, some [r0, r1, _] => some (.okByte (readValue g r0 r1))
  | .query _, some [r0, r1, r2] => some (.okBytes r0 r1 r2)
  | .slicedQuery _, some [r0, r1, r2] => some (.okBytes r0 r1 r2)
  | _, _ => none

/-- The plan is done (40 R122). -/
def finishRequest (s : State) : Host.Outcome State Fault Refusal :=
  match requestResult s.gen s.serReq s.serRep with
  | some r => .next (s.endRequest r)
  | none => .fault .serializerCorrupt

/-- The current step's Transfer returned the reply r: on to the next step, or to the end (40 R122). -/
def stepDone (s : State) (r : List Byte) : Host.Outcome State Fault Refusal :=
  let s' : State := { s with serRep := s.serRep ++ [r], serIdx := s.serIdx + 1, serTry := 1, serPhase := .issue }
  if s.serIdx + 1 < s.serPlan.length then .next s' else finishRequest s'

/-- The current step's Transfer returned Fail: a Wait is due, or the request ends with TransferFail (40 R122, 60 R272). -/
def stepFailed (s : State) (st : SerStep) : Host.Outcome State Fault Refusal :=
  if st.retry ∧ s.serTry < s.par.nTries then .next { s with serPhase := .wait }
  else .next (s.endRequest (.err (.transferFail s.serIdx s.serTry)))

/-- The block's own move while a request is in flight: issue the Transfer, make the Wait, or, while an answer is to come,
nothing (40 R122, 60 R285; log 7, log 8). A plan with no step left is done. -/
def serMove (s : State) : Host.Outcome State Fault Refusal :=
  match s.serPhase with
  | .issue =>
    match s.serPlan[s.serIdx]? with
    | some st => .next { s.sendChannel (.transfer st.cmds st.n) with serPhase := .answer }
    | none => finishRequest s
  | .wait => .next { s.sendChannel (.wait s.par.retryDelay) with serTry := s.serTry + 1, serPhase := .issue }
  | .answer => .next s

/-- The channel answers the Transfer outstanding (40 R122, R123). -/
def serAnswer (a : ChanAnswer) (s : State) : Host.Outcome State Fault Refusal :=
  match s.serPlan[s.serIdx]? with
  | none => .fault .serializerCorrupt
  | some st =>
    match transferReply st.n a with
    | some r => stepDone s r
    | none => stepFailed s st

end Sys2Proof.Machine
end

