-- ==== Sys2Proof/Machine/RegisterIO.lean ====
section
/-! DEFINITION. The transactions of the register I/O serializer: REG_WRITE, REG_READ, QUERY and SLICED_QUERY (40_register_io.md).
Each makes its checks and, if they pass, starts its plan. -/

namespace Sys2Proof.Machine

/-- The configuration check and the start of a plan that depends on the generation (40 R136): NotConfigured while
`cfg_valid = 0`; the model stops on a profile no PROFILE_LOAD leaves (log 13). -/
def startConfigured (r : Req) (plan : Gen → List SerStep) (s : State) : Host.Outcome State Fault Refusal :=
  if s.cfgValid then
    match genOf s.cfgFw with
    | some g => .next (s.startRequest r (plan g))
    | none => .fault .unmappedProfile
  else .next (s.raise .notConfigured)

/-- REG_WRITE (40 R131): the address check comes first. -/
def execRegWrite (addr val : Byte) (s : State) : Host.Outcome State Fault Refusal :=
  if addrOK addr then startConfigured (.write addr val) (fun g => writePlan s.par g addr val) s
  else .next (s.raise (.invalidRegister addr))

/-- REG_READ (40 R132): the address check comes first. -/
def execRegRead (addr : Byte) (s : State) : Host.Outcome State Fault Refusal :=
  if addrOK addr then startConfigured (.read addr) (fun g => readPlan s.par g addr) s
  else .next (s.raise (.invalidRegister addr))

/-- QUERY (40 R133): the plan of the query dialect. -/
def execQuery (q : Byte) (s : State) : Host.Outcome State Fault Refusal :=
  startConfigured (.query q) (fun g => queryPlan s.par (queryDialect g) q) s

/-- SLICED_QUERY (40 R134): always sliced, with or without a profile. -/
def execSlicedQuery (q : Byte) (s : State) : Host.Outcome State Fault Refusal :=
  .next (s.startRequest (.slicedQuery q) (slicedQueryPlan s.par q))

end Sys2Proof.Machine
end

