-- ==== Sys2Proof/Machine/Dispatch.lean ====
section
/-! DEFINITION. The meaning of each instruction, one arm per constructor. -/

namespace Sys2Proof.Machine

def exec (i : Instr) (s : State) : Host.Outcome State Fault Refusal :=
  match i with
  | .reset => Sys2Proof.Machine.execReset s
  | .profileLoad fw s1 tp ymax => Sys2Proof.Machine.execProfileLoad fw s1 tp ymax s
  | .byteIn b => Sys2Proof.Machine.execByteIn b s
  | .regWrite addr val => Sys2Proof.Machine.execRegWrite addr val s
  | .regRead addr => Sys2Proof.Machine.execRegRead addr s
  | .query q => Sys2Proof.Machine.execQuery q s
  | .slicedQuery q => Sys2Proof.Machine.execSlicedQuery q s
  | .pktTrackpoint p => Sys2Proof.Machine.execPktTrackpoint p s
  | .pktUnknownSanityCrc p => Sys2Proof.Machine.execPktUnknownSanityCrc p s
  | .pktStatusCrc p => Sys2Proof.Machine.execPktStatusCrc p s
  | .pktHeadCrc p => Sys2Proof.Machine.execPktHeadCrc p s
  | .pktMotionCrc p => Sys2Proof.Machine.execPktMotionCrc p s
  | .pktUnknownKind3Crc p => Sys2Proof.Machine.execPktUnknownKind3Crc p s
  | .pktStatusIc7 p => Sys2Proof.Machine.execPktStatusIc7 p s
  | .pktHeadIc7 p => Sys2Proof.Machine.execPktHeadIc7 p s
  | .pktMotionIc7 p => Sys2Proof.Machine.execPktMotionIc7 p s
  | .pktUnknownKind3Ic7 p => Sys2Proof.Machine.execPktUnknownKind3Ic7 p s
  | .pktStatusDefault p => Sys2Proof.Machine.execPktStatusDefault p s
  | .pktHeadDefault p => Sys2Proof.Machine.execPktHeadDefault p s
  | .pktMotionDefault p => Sys2Proof.Machine.execPktMotionDefault p s
  | .pktUnknownKind3Default p => Sys2Proof.Machine.execPktUnknownKind3Default p s
  | .pktUnknownSanity p => Sys2Proof.Machine.execPktUnknownSanity p s

end Sys2Proof.Machine
end

