-- ==== Sys2Proof/Machine/Turns.lean ====
section
/-! DEFINITION. One step of the machine: the block accepts transactions in the order they are presented (20 R72), runs a request
in flight move by move (40 R122), and the turn list says which agent moves (00 R8; log 1). Also how a word of the opcode table
is placed where the next step takes it (log 2). -/

namespace Sys2Proof.Machine

/-- The block takes a word: a malformed one is refused, which leaves the run-wide mark and nothing else (30 R93, 60 R279); any
other runs as the instruction it decodes to. -/
def accept (w : TxWord) (s : State) : Host.Outcome State Fault Refusal :=
  match decodeTx w with
  | .ok i => exec i s
  | .error _ => .next { s with refusedMark := true }

/-- The channel's answer to a Transfer that a RESET abandoned (60 R286, 70 R300): the request it belongs to is gone, so the block
makes nothing of it, and the channel owes one answer less. The spec does not say what becomes of it. DESIGN CHOICE (log 30).
When none is owed the answer is to no Transfer, which stops the model (log 10). -/
def lateAnswer (s : State) : Host.Outcome State Fault Refusal :=
  match s.owed with
  | n + 1 => .next { s with owed := n }
  | 0 => .fault .strayAnswer

/-- A step with no request in flight: the oldest waiting word first, then the next turn (20 R72). With nothing presented the
block does nothing (log 24). Any answer is one owed to a Transfer that a RESET abandoned: DESIGN CHOICE (log 30). -/
def idleTurn (s : State) : Host.Outcome State Fault Refusal :=
  match s.waiting with
  | w :: ws => accept w { s with waiting := ws }
  | [] =>
    match s.turns with
    | [] => .next s
    | .present w :: ts => accept w { s with turns := ts }
    | .block :: ts => .next { s with turns := ts }
    | .channel _ :: ts => lateAnswer { s with turns := ts }
    | .late _ :: ts => lateAnswer { s with turns := ts }

/-- A word presented while a request is in flight: RESET is accepted and abandons the request (70 R300); any other word waits
until the request completes (20 R72; log 12). -/
def presentBusy (w : TxWord) (s : State) : Host.Outcome State Fault Refusal :=
  match decodeTx w with
  | .ok .reset => exec .reset s
  | _ => .next { s with waiting := s.waiting ++ [w] }

/-- A step with a request in flight. An answer to its Transfer is taken when the Transfer has been issued; until then the block
moves. With no turn left the block moves too, and waits when the channel is silent (70 R305; log 8). Which Transfer an answer
is to, this request's or one that a RESET abandoned, the turn says: DESIGN CHOICE (log 30). -/
def busyTurn (s : State) : Host.Outcome State Fault Refusal :=
  match s.turns with
  | [] => serMove s
  | .block :: ts => serMove { s with turns := ts }
  | .present w :: ts => presentBusy w { s with turns := ts }
  | .late _ :: ts => lateAnswer { s with turns := ts }
  | .channel a :: ts => if s.serPhase = .answer then serAnswer a { s with turns := ts } else serMove s

/-- One step. -/
def turnStep (s : State) : Host.Outcome State Fault Refusal := if s.serBusy then busyTurn s else idleTurn s

/-- A profile whose signals are the given mode: V4 with the check mode and the trackpoint flag (10 R29, 41 R160). -/
def State.withMode (s : State) (m : PktMode) : State :=
  { s with
    cfgValid := true
    cfgTp := m.tp
    cfgFw := match m.check with
      | .crc => 0x064000
      | .ic7 => 0x070000
      | .default => 0x060000
    cfgS1 := match m.check with
      | .ic7 => 0x2A
      | .crc | .default => 0x00 }

/-- A transaction word placed as the next one presented, with no request in flight and none waiting (log 2). -/
def State.placeTx (s : State) (w : TxWord) : State :=
  { s with serBusy := false, waiting := [], turns := .present w :: s.turns }

/-- A packet placed so that the next step completes it: a profile of the mode, the first five bytes in the frame buffer, and
the sixth presented as a BYTE_IN (42 R200; log 2). -/
def State.placePacket (s : State) (m : PktMode) (p : Packet) : State :=
  { (s.withMode m).placeTx (0x2#4 ++ 0#52 ++ p[5]) with frBuf := p, frCount := 5 }

/-- A word of the opcode table placed where the next step takes it, read as decodeTableWord reads it. -/
def State.placeTableWord (s : State) (nbits w : Nat) : State :=
  if nbits ≤ 48 then
    let p := Packet.ofWord (BitVec.ofNat 48 w)
    s.placePacket (tableMode nbits p) p
  else s.placeTx (BitVec.ofNat 64 w)

end Sys2Proof.Machine
end

