-- ==== Sys2Proof/Machine/Step.lean ====
section
/-! DEFINITION. The machine's step and the placing of an instruction where the next step takes it. -/

namespace Sys2Proof.Machine

/-- One step of the machine. -/
def step (s : State) : Host.Outcome State Fault Refusal := turnStep s

/-- s with the instruction of the opcode table's bits placed where the next step takes it (log 2). -/
def State.withFetchWord (s : State) (nbits w : Nat) : State := s.placeTableWord nbits w

end Sys2Proof.Machine
end

