-- ==== Sys2Proof/Machine/HostSide.lean ====
section
/-! DEFINITION. The host-side reference functions (41_profile.md part B) and the boot order (70 R302), with every stop
either calls for. The block does not execute them: they say which profile the host loads. What the source leaves open is a
parameter of the host (log 21). -/

namespace Sys2Proof.Machine

/-- Coordinate bounds (41 R174 to R177, R181). -/
structure Bounds where
  xMin : Int
  xMax : Int
  yMin : Int
  yMax : Int
deriving DecidableEq, Repr

/-- Three reply bytes. -/
structure Reply3 where
  b0 : Byte
  b1 : Byte
  b2 : Byte
deriving DecidableEq, Repr

/-- The host's constants that are not in the source (92 D31, D41). -/
structure HostParams where
  knockSeq    : List Byte
  fwverQuery  : Byte
  fwidQuery   : Byte
  capQuery    : Byte
  sampleQuery : Byte
  resQuery    : Byte
  v1Bounds    : Bounds
  /-- `V2_FIXED` for 0x020800, 0x020B00 and 0x020030. -/
  v2Fixed0800 : Bounds
  v2Fixed0B00 : Bounds
  v2Fixed0030 : Bounds
  v2XMin      : Int
  v2YMin      : Int
  /-- Which capability byte gives each axis of the V2 default formula. -/
  v2CapX      : Fin 3
  v2CapY      : Fin 3
  v34XMin     : Int
  v34YMin     : Int
  defaultRes  : Nat × Nat
deriving DecidableEq, Repr

/-- `KnockOK` (41 R170, 90 C6). -/
def knockOK (r0 r1 r2 : Byte) : Bool := r0 == 0x3C && r1 == 0x03 && (r2 == 0xC8 || r2 == 0x00)

/-- The legacy sample-rate values (41 R171). -/
def legacyRates : List Byte := [200, 100, 80, 60, 40, 20, 10]

/-- `SigValid`: the first test that decides, decides (41 R171). -/
def sigValid (b0 b1 b2 : Byte) : Bool :=
  if b0 = 0 then false
  else if b1 = 0 then true
  else if 0x06 ≤ b0 &&& 0x0F ∧ b1 &&& 0xAF = 0x0F ∧ b2 < 40 then true
  else !legacyRates.contains b2

/-- `firmware_version = b0<<16 | b1<<8 | b2` (20 R60, 41 R172). -/
def firmwareVersion (b0 b1 b2 : Byte) : Firmware := b0 ++ b1 ++ b2

/-- The known-bug guard (41 R173). -/
def knownBug (fw : Firmware) (s1 : Byte) : Bool := genOf fw == some .v3 && s1 == 0x74

/-- `V2Offset` (41 R175). -/
def v2Offset (fw : Firmware) : Int := if 0x020800 < fw ∧ fw < 0x020900 then 1 else 2

/-- `V2Default`, computed in the integers (41 R175). -/
def v2Default (c : Byte) (i : Int) : Int := ((c.toNat : Int) - i) * 64

/-- `V2Override`, as x_max and y_max (41 R175). -/
def v2Override (fw : Firmware) : Option (Int × Int) :=
  if fw = 0x040216 then some (819, 405)
  else if fw = 0x040219 ∨ fw = 0x040215 then some (900, 500)
  else none

/-- The packed x_max of V3 and V4, 12 bits (41 R176). -/
def packedXMax (r : Reply3) : BitVec 12 := r.b0.extractLsb' 0 4 ++ r.b1

/-- The packed y_max of V3 and V4, 12 bits (41 R176). -/
def packedYMax (r : Reply3) : BitVec 12 := r.b0.extractLsb' 4 4 ++ r.b2

/-- The physical width from the column-trace count, or GeometryFail (41 R177, 90 C11). -/
def traceWidth (traces xMax : Nat) : Except Err Nat :=
  if 2 ≤ traces ∧ traces ≤ xMax then .ok (xMax / (traces - 1)) else .error .geometryFail

/-- The row-trace count, left unset outside `[2, y_max]` (41 R178). -/
def rowTraces (c yMax : Nat) : Option Nat := if 2 ≤ c ∧ c ≤ yMax then some c else none

/-- `convert_res`, dots per millimetre, truncating (41 R179). -/
def convertRes (n : Nat) : Nat := ((n * 10 + 790) * 10) / 254

/-- The bounds invariant (41 R181). -/
def boundsOK (b : Bounds) : Bool := b.xMin < b.xMax && b.yMin < b.yMax

/-- One of three reply bytes. -/
def Reply3.at (r : Reply3) (i : Fin 3) : Byte := #v[r.b0, r.b1, r.b2][i]

/-- The host's parts that are functions of what it has read: open in the spec, so any host has some (91 N4, N16, N18; log 21). -/
structure HostPolicy where
  /-- The trackpoint device flag (41 R164). -/
  tp : Bool
  /-- All that 41 R175 leaves open between the V2 default formula and the maxima: what the firmware-ID query contributes and the
  "fixed DPI" scaling by a sample query. It takes the firmware, the firmware-ID reply, the sample reply and the two maxima of the
  default formula. DESIGN CHOICE (log 21). -/
  v2Adjust : Firmware → Reply3 → Reply3 → Int × Int → Int × Int
  /-- Which nibbles of the resolution reply are the x and y axes' (41 R180). -/
  resNibbles : Reply3 → BitVec 4 × BitVec 4

/-- The V2 bounds: an override first, then the fixed constants, then the default formula with what the host's policy makes of it
(41 R175; log 21). -/
def v2Bounds (hp : HostParams) (pol : HostPolicy) (fw : Firmware) (caps samples fwid : Reply3) : Bounds :=
  match v2Override fw with
  | some m => ⟨hp.v2XMin, m.1, hp.v2YMin, m.2⟩
  | none =>
    if fw = 0x020800 then hp.v2Fixed0800
    else if fw = 0x020B00 then hp.v2Fixed0B00
    else if fw = 0x020030 then hp.v2Fixed0030
    else
      let m := pol.v2Adjust fw fwid samples
        (v2Default (caps.at hp.v2CapX) (v2Offset fw), v2Default (caps.at hp.v2CapY) (v2Offset fw))
      ⟨hp.v2XMin, m.1, hp.v2YMin, m.2⟩

/-- The V3 and V4 bounds (41 R176). -/
def packedBounds (hp : HostParams) (fwid : Reply3) : Bounds :=
  ⟨hp.v34XMin, (packedXMax fwid).toNat, hp.v34YMin, (packedYMax fwid).toNat⟩

/-- The bounds of each generation (41 R174 to R177). -/
def resolveBounds (hp : HostParams) (pol : HostPolicy) (g : Gen) (fw : Firmware) (caps samples fwid : Reply3) : Bounds :=
  match g with
  | .v1 => hp.v1Bounds
  | .v2 => v2Bounds hp pol fw caps samples fwid
  | .v3 | .v4 => packedBounds hp fwid

/-- The trace geometry of a V4 device (10 R33, 41 R177, R178). A row count that is unset is none. -/
structure TraceGeometry where
  xTraces : Nat
  width   : Nat
  yTraces : Option Nat
deriving DecidableEq, Repr

/-- The V4 trace geometry: the column count is capability byte 1, which must be in range; the row count is capability byte 2, left
unset out of range (41 R177, R178). -/
def traceGeometry (caps fwid : Reply3) : Except Err TraceGeometry :=
  match traceWidth caps.b1.toNat (packedXMax fwid).toNat with
  | .ok w => .ok { xTraces := caps.b1.toNat, width := w, yTraces := rowTraces caps.b2.toNat (packedYMax fwid).toNat }
  | .error e => .error e

/-- The trace geometry of each generation: only V4 has one (41 R177, R178). -/
def resolveTraces (g : Gen) (caps fwid : Reply3) : Except Err (Option TraceGeometry) :=
  match g with
  | .v1 | .v2 | .v3 => .ok none
  | .v4 => (traceGeometry caps fwid).map some

/-- The resolution: the default constant, overridden by the nibbles of the resolution query's reply where there is one (41 R180). -/
def resolution (hp : HostParams) (pol : HostPolicy) (res : Option Reply3) : Nat × Nat :=
  match res with
  | some r => (convertRes (pol.resNibbles r).1.toNat, convertRes (pol.resNibbles r).2.toNat)
  | none => hp.defaultRes

/-- The source's `DeviceProfile` (10 R33), but for what follows from the firmware and the first sample: it exists only with bounds
that meet the invariant of 41 R181. -/
structure DeviceProfile where
  gen        : Gen
  fw         : Firmware
  caps       : Reply3
  samples    : Reply3
  tp         : Bool
  bounds     : Bounds
  resolution : Nat × Nat
  traces     : Option TraceGeometry
  /-- The bounds invariant, without which the host must not load the profile (41 R181). -/
  boundsMet  : boundsOK bounds = true
deriving DecidableEq, Repr

/-- `resolve()`: the known-bug guard, the bounds, the traces, the resolution and the bounds invariant (41 R173 to R182). The
resolution reply is there on V4 alone. -/
def resolve (hp : HostParams) (pol : HostPolicy) (fw : Firmware) (caps samples fwid : Reply3) (res : Option Reply3) :
    Except Err DeviceProfile :=
  match genOf fw with
  | none => .error (.unknownHardware fw)
  | some g =>
    if knownBug fw samples.b1 then .error .geometryFail
    else
      match resolveTraces g caps fwid with
      | .error e => .error e
      | .ok tr =>
        let b := resolveBounds hp pol g fw caps samples fwid
        if h : boundsOK b = true then
          .ok { gen := g, fw := fw, caps := caps, samples := samples, tp := pol.tp, bounds := b,
                resolution := resolution hp pol res, traces := tr, boundsMet := h }
        else .error .geometryFail

/-- The knock's check; a knock whose transfer failed has no reply (41 R170). -/
def checkKnock (knock : Option Reply3) : Except Err Unit :=
  match knock with
  | some k => if knockOK k.b0 k.b1 k.b2 then .ok () else .error .notElantech
  | none => .error .notElantech

/-- The firmware version out of the block's answer to the firmware-version query: a failed transfer is fatal, and so is a bad
signature (41 R171, R172, R182). -/
def firmwareOf (fwver : Except Err Reply3) : Except Err Firmware :=
  match fwver with
  | .ok r => if sigValid r.b0 r.b1 r.b2 then .ok (firmwareVersion r.b0 r.b1 r.b2) else .error .notElantech
  | .error e => .error e

/-- `detect()`: the knock, then the firmware-version query (41 R170 to R172, R182). -/
def detect (knock : Option Reply3) (fwver : Except Err Reply3) : Except Err Firmware :=
  match checkKnock knock with
  | .ok _ => firmwareOf fwver
  | .error e => .error e

/-- The `ymax` operand for a y_max: the number itself where it fits 16 bits (41 R183), a free value where it does not. DESIGN CHOICE
(log 31). -/
def ymaxOperand (y : Int) : BitVec 16 := if 0 ≤ y ∧ y < 65536 then BitVec.ofInt 16 y else Config.ymaxBeyond y

/-- The PROFILE_LOAD of a resolved device (41 R183). -/
def profileOf (p : DeviceProfile) : Instr := .profileLoad p.fw p.samples.b1 p.tp (ymaxOperand p.bounds.yMax)

/-! The boot order (70 R302). -/

/-- What the host does: the knock goes to the channel directly (41 R170, 92 D31), all else is a transaction to the block. -/
inductive HostAct where
  | knock (cmds : List Byte)
  | present (i : Instr)
deriving DecidableEq, Repr

/-- A part of the boot order: what the host did, in order, and what it has then, or the failure that stopped it (log 33). -/
structure HostRun (α : Type) where
  acts : List HostAct
  outcome : Except Err α

/-- One act and the host's reading of its answer. -/
def HostRun.act {α : Type} (a : HostAct) (answer : Except Err α) : HostRun α := ⟨[a], answer⟩

/-- One part of the boot order after another; a failure stops it, and the host does nothing more (70 R302, 41 R182). -/
def HostRun.andThen {α β : Type} (r : HostRun α) (f : α → HostRun β) : HostRun β :=
  match r.outcome with
  | .ok a => ⟨r.acts ++ (f a).acts, (f a).outcome⟩
  | .error e => ⟨r.acts, .error e⟩

/-- The answers the host gets: the knock's reply, none when its transfer failed, and for each query the three bytes of Ok or the
error the block returns (41 R170, R182, 30 R100). -/
structure BootReplies where
  knock   : Option Reply3
  fwver   : Except Err Reply3
  caps    : Except Err Reply3
  samples : Except Err Reply3
  fwid    : Except Err Reply3
  res     : Except Err Reply3

/-- What the block answers to PROFILE_LOAD (41 R165). -/
def loadAnswer (fw : Firmware) : Except Err Unit :=
  match genOf fw with
  | none => .error (.unknownHardware fw)
  | some _ => .ok ()

/-- The resolution query, made on V4 alone (41 R180, 70 R302 step 5). -/
def askResolution (hp : HostParams) (fw : Firmware) (res : Except Err Reply3) : HostRun (Option Reply3) :=
  if genOf fw = some .v4 then .act (.present (.query hp.resQuery)) (res.map some) else ⟨[], .ok none⟩

/-- Steps 1 to 6 of the boot order, from RESET to the resolved profile (70 R302, 41 R182). -/
def identify (hp : HostParams) (pol : HostPolicy) (r : BootReplies) : HostRun DeviceProfile :=
  (HostRun.act (.present .reset) (.ok ())).andThen fun _ =>
  (HostRun.act (.knock hp.knockSeq) (checkKnock r.knock)).andThen fun _ =>
  (HostRun.act (.present (.slicedQuery hp.fwverQuery)) (firmwareOf r.fwver)).andThen fun fw =>
  (HostRun.act (.present (.profileLoad fw 0 false 0)) (loadAnswer fw)).andThen fun _ =>
  (HostRun.act (.present (.query hp.capQuery)) r.caps).andThen fun caps =>
  (HostRun.act (.present (.query hp.sampleQuery)) r.samples).andThen fun samples =>
  (HostRun.act (.present (.query hp.fwidQuery)) r.fwid).andThen fun fwid =>
  (askResolution hp fw r.res).andThen fun res => ⟨[], resolve hp pol fw caps samples fwid res⟩

/-- The source's `identify_and_resolve()` (41 R182). -/
def identifyAndResolve (hp : HostParams) (pol : HostPolicy) (r : BootReplies) : Except Err DeviceProfile :=
  (identify hp pol r).outcome

/-- Steps 7 and 8: the final profile, then the absolute-mode register writes, whose failures stop nothing (70 R302, R310,
41 R182). -/
def setup (writes : DeviceProfile → List (Byte × Byte)) (p : DeviceProfile) : HostRun DeviceProfile :=
  ⟨.present (profileOf p) :: (writes p).map (fun w => .present (.regWrite w.1 w.2)), .ok p⟩

/-- The boot order up to the point where the device may stream (70 R302): a failure stops it before the final profile. -/
def boot (hp : HostParams) (pol : HostPolicy) (writes : DeviceProfile → List (Byte × Byte)) (r : BootReplies) :
    HostRun DeviceProfile :=
  (identify hp pol r).andThen (setup writes)

end Sys2Proof.Machine
end

