-- ==== Sys2Proof/Safety.lean ====
section
/-! DEFINITION. The terms claims use: good states (60 R277, R279, 70 R312), the invariant of reachable states, states that agree on
all that is ever observed (10 R43), and the reference reading of Execute (40 R122). -/

namespace Sys2Proof

open Machine

/-- No fault bit and no refused word so far (60 R277, R279). -/
def Good (s : State) : Prop := s.fltUnconfigured = false ∧ s.fltUnsupported = false ∧ s.refusedMark = false

/-- A run may end here (70 R312): no transaction waits or is still to come, and no request is in flight. -/
def AtEnd (s : State) : Prop := s.serBusy = false ∧ s.waiting = [] ∧ s.turns = []

/-! Well-formed plans (40 R121). -/

/-- Only the last step may expect a reply, and it expects n bytes. -/
def PlanShape (n : Nat) : List SerStep → Prop
  | [] => False
  | [st] => st.n = n
  | st :: rest => st.n = 0 ∧ PlanShape n rest

/-- The reply bytes the plan of a request ends with: none for a write, three otherwise (40 R124 to R130). -/
def replyBytes : Req → Nat
  | .write _ _ => 0
  | .read _ | .query _ | .slicedQuery _ => 3

/-- The parameters give every request a plan of the shape 40 R121 asks for. -/
structure ParamsOK (par : Params) : Prop where
  write  : ∀ g a v, PlanShape 0 (writePlan par g a v)
  read   : ∀ g a, PlanShape 3 (readPlan par g a)
  query  : ∀ d q, PlanShape 3 (queryPlan par d q)
  sliced : ∀ q, PlanShape 3 (slicedQueryPlan par q)

/-- What holds of the serializer while a request is in flight (10 R41, 40 R122). -/
structure RequestOK (s : State) : Prop where
  /-- The plan has the shape its request calls for. -/
  shape : PlanShape (replyBytes s.serReq) s.serPlan
  /-- The current step is a step of the plan. -/
  idx : s.serIdx < s.serPlan.length
  /-- There is one reply for each completed step, of the length the step asked for. -/
  replies : s.serRep.map List.length = (s.serPlan.take s.serIdx).map SerStep.n
  /-- The attempt number is 1 up to N_TRIES, and 1 on a step that is not retried. -/
  attempt : 1 ≤ s.serTry ∧ (s.serTry ≤ s.par.nTries ∨ s.serTry = 1)
  /-- A step that is not retried is on its first attempt. -/
  once : ∀ st, s.serPlan[s.serIdx]? = some st → st.retry = false → s.serTry = 1
  /-- A Wait is due only before another attempt is allowed. -/
  waitDue : s.serPhase = .wait → s.serTry < s.par.nTries ∧ ∃ st, s.serPlan[s.serIdx]? = some st ∧ st.retry = true
  /-- A request that needs a profile has one. -/
  configured : (∃ q, s.serReq = .slicedQuery q) ∨ s.cfgValid = true

/-- The invariant of the machine: tracking slots are live (10 R32), a loaded profile has a generation (10 R24), and a request in
flight is consistent. -/
structure Invariant (s : State) : Prop where
  params  : ParamsOK s.par
  trackLive : ∀ i : Slot, s.track.getLsbD i.val = true → s.live.getLsbD i.val = true
  mapped : s.cfgValid = true → genOf s.cfgFw ≠ none
  request : s.serBusy = true → RequestOK s

/-- Two states that agree on everything but the elements whose value is unspecified (10 R42, R43): the profile while none is
loaded, the coordinates of slots that do not track, the buffer bytes not yet received, the request while none is in flight. -/
structure Agree (s t : State) : Prop where
  par : s.par = t.par
  fltUnconfigured : s.fltUnconfigured = t.fltUnconfigured
  fltUnsupported : s.fltUnsupported = t.fltUnsupported
  cfgValid : s.cfgValid = t.cfgValid
  profile : s.cfgValid = true → s.cfgFw = t.cfgFw ∧ s.cfgS1 = t.cfgS1 ∧ s.cfgTp = t.cfgTp ∧ s.cfgYmax = t.cfgYmax
  live : s.live = t.live
  track : s.track = t.track
  slots : ∀ i : Slot, s.track.getLsbD i.val = true → s.slotX[i] = t.slotX[i] ∧ s.slotY[i] = t.slotY[i]
  frCount : s.frCount = t.frCount
  frBuf : ∀ i : Fin 6, i < s.frCount → s.frBuf[i] = t.frBuf[i]
  serBusy : s.serBusy = t.serBusy
  request : s.serBusy = true →
    s.serPlan = t.serPlan ∧ s.serIdx = t.serIdx ∧ s.serTry = t.serTry ∧ s.serRep = t.serRep ∧ s.serReq = t.serReq ∧
      s.serPhase = t.serPhase
  owed : s.owed = t.owed
  waiting : s.waiting = t.waiting
  turns : s.turns = t.turns
  evOut : s.evOut = t.evOut
  results : s.results = t.results
  chanOut : s.chanOut = t.chanOut
  refusedMark : s.refusedMark = t.refusedMark

/-- Two outcomes agree: both a next state, in agreement, or the same stop. -/
def AgreeOutcome : Host.Outcome State Fault Refusal → Host.Outcome State Fault Refusal → Prop
  | .next s, .next t => Agree s t
  | .fault a, .fault b => a = b
  | .refused a, .refused b => a = b
  | _, _ => False

/-! The reference reading of Execute (40 R122), over the channel's answers in order. -/

/-- How Execute ends: with one reply list for each step, or with TransferFail. -/
inductive ExecEnd where
  | replies (rep : List (List Byte))
  | failed (step : Nat) (attempts : Byte)
deriving DecidableEq, Repr

/-- `Execute` from step i at attempt t with the replies so far: what it puts on the channel, how it ends, and the answers it leaves;
none when the answers run out first. -/
def executeFrom (nTries : Byte) (delay : Nat) :
    List SerStep → Nat → Byte → List (List Byte) → List ChanAnswer → Option (List ChanOut × ExecEnd × List ChanAnswer)
  | [], _, _, rep, ans => some ([], .replies rep, ans)
  | _ :: _, _, _, _, [] => none
  | st :: rest, i, t, rep, a :: ans =>
    match transferReply st.n a with
    | some r =>
      (executeFrom nTries delay rest (i + 1) 1 (rep ++ [r]) ans).map
        (fun e => (.transfer st.cmds st.n :: e.1, e.2))
    | none =>
      if st.retry ∧ t < nTries then
        (executeFrom nTries delay (st :: rest) i (t + 1) rep ans).map
          (fun e => (.transfer st.cmds st.n :: .wait delay :: e.1, e.2))
      else some ([.transfer st.cmds st.n], .failed i t, ans)

/-- `Execute(plan)` (40 R122). -/
def execute (nTries : Byte) (delay : Nat) (plan : List SerStep) (ans : List ChanAnswer) :
    Option (List ChanOut × ExecEnd × List ChanAnswer) :=
  executeFrom nTries delay plan 0 1 [] ans

/-- What one step of a plan puts on the channel when k of its attempts fail before the one that ends it: each attempt one Transfer,
and one Wait between two attempts (40 R122). -/
def stepTrace (delay : Nat) (st : SerStep) (k : Nat) : List ChanOut :=
  (List.replicate k [.transfer st.cmds st.n, .wait delay]).flatten ++ [.transfer st.cmds st.n]

/-- Whether a channel item is a Transfer. -/
def ChanOut.isTransfer : ChanOut → Bool
  | .transfer _ _ => true
  | .wait _ => false

/-- The result a request reports when Execute ends (40 R131 to R134, 60 R272). -/
def endResult (g : Option Gen) (req : Req) : ExecEnd → Option Result
  | .replies rep => requestResult g req rep
  | .failed i t => some (.err (.transferFail i t))

/-- The request in flight is at its very start (40 R122). -/
def AtStart (s : State) (plan : List SerStep) : Prop :=
  s.serBusy = true ∧ s.serPlan = plan ∧ s.serIdx = 0 ∧ s.serTry = 1 ∧ s.serRep = [] ∧ s.serPhase = .issue

/-- Everything but the serializer's own state, the channel and host ports and the turns is the same: what a request leaves alone
(40 R135). -/
def SameBlock (s t : State) : Prop :=
  t = { s with
    serBusy := t.serBusy, serPlan := t.serPlan, serIdx := t.serIdx, serTry := t.serTry, serRep := t.serRep,
    serReq := t.serReq, serPhase := t.serPhase, results := t.results, chanOut := t.chanOut, turns := t.turns }

/-- The answers as turns. -/
def answers (ans : List ChanAnswer) : List Turn := ans.map .channel

/-- The answers that let every step of a plan succeed, with the given reply to each (40 R123). -/
def okTurns (reps : List (List Byte)) : List Turn := answers (reps.map .ok)

/-- What a plan puts on the channel when every answer is Ok: one Transfer a step (40 R122). -/
def planTransfers (plan : List SerStep) : List ChanOut := plan.map (fun st => .transfer st.cmds st.n)

/-- The word of BYTE_IN(b) (30 R80). -/
def byteWord (b : Byte) : TxWord := 0x2#4 ++ 0#52 ++ b

/-- The block takes the next word presented: no request is in flight, none waits, and the word is next (20 R72). -/
def Presents (s : State) (w : TxWord) (more : List Turn) : Prop :=
  s.serBusy = false ∧ s.waiting = [] ∧ s.turns = .present w :: more

/-- A RESET is presented to a block with a request in flight (70 R300). -/
def ResetPresented (s : State) : Prop := ∃ w ts, s.turns = .present w :: ts ∧ decodeTx w = .ok .reset

/-! The host's boot order (70 R302). -/

/-- A knock reply the host accepts (41 R170). -/
def GoodKnock (knock : Option Reply3) : Prop :=
  ∃ k, knock = some k ∧ k.b0 = 0x3C ∧ k.b1 = 0x03 ∧ (k.b2 = 0xC8 ∨ k.b2 = 0x00)

/-- Everything the host does up to resolution for a device of a firmware, when nothing stops it (70 R302, steps 1 to 5). -/
def identifyActs (hp : HostParams) (fw : Firmware) : List HostAct :=
  [.present .reset, .knock hp.knockSeq, .present (.slicedQuery hp.fwverQuery), .present (.profileLoad fw 0 false 0),
    .present (.query hp.capQuery), .present (.query hp.sampleQuery), .present (.query hp.fwidQuery)] ++
  if genOf fw = some .v4 then [.present (.query hp.resQuery)] else []

end Sys2Proof
end

