-- ==== Sys2Proof/Certificates/Slice0/Obligations.lean ====
section
/-! DEFINITION. The statements for the provers. Each is about every state and operand unless it says otherwise. -/

open Sys2Proof Sys2Proof.Machine

/-! Encoding (30_encoding.md). -/

/-- Decoding the words of a well-formed instruction gives it back, with every operand at every value (30 R80, R82, R92). -/
def Obligations.DecodeOfEncodeIsInstruction : Prop :=
  ∀ i : Instr, i.wellFormed = true → decode i.mode (encode i) = .ok i

/-- A word or packet that decodes is the encoding of what it decodes to, and that instruction is well formed: no word has a second
spelling (30 R80, R92, R93). -/
def Obligations.EncodeOfDecodeIsWord : Prop :=
  ∀ (m : PktMode) (e : Encoded) (i : Instr), decode m e = .ok i → encode i = e ∧ i.wellFormed = true

/-- Words written out from 30 R80 and R81 decode to the instructions they stand for. -/
def Obligations.SpecWordsDecode : Prop :=
  decodeTx 0x0000000000000000 = .ok .reset ∧
  decodeTx 0x10361F0300000800 = .ok (.profileLoad 0x361F03 0x00 false 0x0800) ∧
  decodeTx 0x2000000000000031 = .ok (.byteIn 0x31) ∧
  decodeTx 0x3000000000000701 = .ok (.regWrite 0x07 0x01) ∧
  decodeTx 0x4000000000002600 = .ok (.regRead 0x26) ∧
  decodeTx 0x5000000000000002 = .ok (.query 0x02) ∧
  decodeTx 0x6000000000000001 = .ok (.slicedQuery 0x01) ∧
  decode ⟨false, .default⟩ (.packet 0x000123310100) = .ok (.pktHeadDefault #v[0x00, 0x01, 0x23, 0x31, 0x01, 0x00])

/-- The classification map's rows give the kinds of Classify, for every packet and every profile mode (30 R92, 42 R203). -/
def Obligations.ClassificationMapAgreesWithClassify : Prop :=
  ∀ (m : PktMode) (p : Packet), rowKind (decodeRow m p) = classify m p

/-- What each kind asks of the header bytes, in the words of 42 R203 to R208. -/
def Obligations.KindByHeaderBits : Prop :=
  ∀ (m : PktMode) (p : Packet),
    (classify m p = .trackPoint ↔ m.tp = true ∧ p[3].toNat % 16 = 6) ∧
    (∀ k : PacketKind, k ≠ .trackPoint → k ≠ .unknown →
      (classify m p = k ↔
        ¬ (m.tp = true ∧ p[3].toNat % 16 = 6) ∧
        p[3].toNat % 4 = kindCode k - 2 ∧
        (m.check = .crc → p[3].toNat / 8 % 2 = 0) ∧
        (m.check ≠ .crc → p[3].toNat / 4 % 8 = 4) ∧
        (m.check = .default → p[0].toNat / 8 % 2 = 0)))

/-- A word with a reserved tag or a nonzero must-be-0 bit is refused, and no other word is (30 R80, R93, 60 R279). A refused word
leaves the run-wide mark and nothing else, and no step of the machine clears the mark: the model's reading (log 11). -/
def Obligations.MalformedWordsAreRefused : Prop :=
  (∀ w : TxWord, (∃ r, decodeTx w = .error r) ↔
    7 ≤ w.toNat / 2 ^ 60 ∨
    (w.toNat / 2 ^ 60 = 0 ∧ w.toNat % 2 ^ 60 ≠ 0) ∨
    (w.toNat / 2 ^ 60 = 1 ∧ (w.toNat / 2 ^ 56 % 2 ^ 4 ≠ 0 ∨ w.toNat / 2 ^ 17 % 2 ^ 7 ≠ 0)) ∨
    (w.toNat / 2 ^ 60 = 2 ∧ w.toNat / 2 ^ 8 % 2 ^ 52 ≠ 0) ∨
    (w.toNat / 2 ^ 60 = 3 ∧ w.toNat / 2 ^ 16 % 2 ^ 44 ≠ 0) ∨
    (w.toNat / 2 ^ 60 = 4 ∧ (w.toNat / 2 ^ 16 % 2 ^ 44 ≠ 0 ∨ w.toNat % 2 ^ 8 ≠ 0)) ∨
    (w.toNat / 2 ^ 60 = 5 ∧ w.toNat / 2 ^ 8 % 2 ^ 52 ≠ 0) ∨
    (w.toNat / 2 ^ 60 = 6 ∧ w.toNat / 2 ^ 8 % 2 ^ 52 ≠ 0)) ∧
  (∀ (s : State) (w : TxWord) (more : List Turn) (r : Reject), Presents s w more → decodeTx w = .error r →
    step s = .next { s with turns := more, refusedMark := true }) ∧
  (∀ s t : State, step s = .next t → s.refusedMark = true → t.refusedMark = true)

/-! The step (20 R72, 42 R202). -/

/-- A word that decodes runs as exec of its instruction: the next word presented, or the oldest waiting word, once no request is in
flight; a RESET also while one is (20 R72, 70 R300). -/
def Obligations.StepRunsDecodedInstruction : Prop :=
  (∀ (s : State) (w : TxWord) (more : List Turn) (i : Instr), Presents s w more → decodeTx w = .ok i →
    step s = exec i { s with turns := more }) ∧
  (∀ (s : State) (w : TxWord) (ws : List TxWord) (i : Instr), s.serBusy = false → s.waiting = w :: ws → decodeTx w = .ok i →
    step s = exec i { s with waiting := ws }) ∧
  (∀ (s : State) (w : TxWord) (more : List Turn), s.serBusy = true → s.turns = .present w :: more → decodeTx w = .ok .reset →
    step s = exec .reset { s with turns := more })

/-- The sixth accepted byte runs the packet instruction its packet decodes to under the profile, in the same step (42 R202,
20 R69). -/
def Obligations.SixthByteRunsDecodedPacket : Prop :=
  ∀ (s : State) (b : Byte), s.gen = some .v4 → s.frCount = 5 →
    exec (.byteIn b) s =
      exec (decodePacket s.pktMode (s.frBuf.set 5 b)) { s with frBuf := s.frBuf.set 5 b, frCount := 0 }

/-- A transaction other than RESET presented while a request is in flight waits, and nothing else changes (20 R72). -/
def Obligations.WordsWaitForTheRequest : Prop :=
  ∀ (s : State) (w : TxWord) (more : List Turn),
    s.serBusy = true → s.turns = .present w :: more → decodeTx w ≠ .ok .reset →
    step s = .next { s with turns := more, waiting := s.waiting ++ [w] }

/-! Reset and the profile (70 R300, 41 R160 to R165, 10 R28, R29). -/

/-- RESET writes every element 70 R300 names, gives no result, puts nothing on any port, and leaves the words presented and the
mark; it is accepted in every state. The model's own: what the ports and the mark keep (log 11, log 14), and that the answer to a
Transfer it abandons stays owed (log 30). -/
def Obligations.ResetResult : Prop :=
  ∀ s : State, ∃ t : State, exec .reset s = .next t ∧
    t.serBusy = false ∧ t.fltUnconfigured = false ∧ t.fltUnsupported = false ∧ t.cfgValid = false ∧
    t.frCount = 0 ∧ t.live = 0 ∧ t.track = 0 ∧
    t.par = s.par ∧ t.waiting = s.waiting ∧ t.turns = s.turns ∧ t.evOut = s.evOut ∧ t.results = s.results ∧
    t.chanOut = s.chanOut ∧ t.refusedMark = s.refusedMark ∧
    t.owed = s.owed + (if s.serBusy = true ∧ s.serPhase = .answer then 1 else 0)

/-- A RESET presented at any point of a request, also while its Transfer is unanswered, ends the request with no result and no
further Transfer or Wait (70 R300). The channel still answers that Transfer (60 R286), and its answer, whenever it comes, changes
nothing but the count of the answers owed: with no request in flight any answer is such a one, and during a later request one
that the turn marks as such. What becomes of a late answer is the model's choice (log 30). -/
def Obligations.ResetAbandonsRequest : Prop :=
  (∀ s : State, s.serBusy = true → ResetPresented s →
    ∃ t : State, step s = .next t ∧ t.serBusy = false ∧ t.cfgValid = false ∧ t.results = s.results ∧
      t.chanOut = s.chanOut ∧ t.evOut = s.evOut ∧ t.waiting = s.waiting ∧
      t.owed = s.owed + (if s.serPhase = .answer then 1 else 0)) ∧
  (∀ (s : State) (a : ChanAnswer) (more : List Turn), 0 < s.owed →
    ((s.serBusy = false ∧ s.waiting = [] ∧ s.turns = .channel a :: more) ∨
     ((s.serBusy = true ∨ s.waiting = []) ∧ s.turns = .late a :: more)) →
    step s = .next { s with turns := more, owed := s.owed - 1 })

/-- The values 10 R42 gives after reset, and that nothing is presented or shown. -/
def Obligations.ResetStateValues : Prop :=
  State.reset.fltUnconfigured = false ∧ State.reset.fltUnsupported = false ∧ State.reset.cfgValid = false ∧
  State.reset.frCount = 0 ∧ State.reset.live = 0 ∧ State.reset.track = 0 ∧ State.reset.serBusy = false ∧
  State.reset.evOut = [] ∧ State.reset.results = [] ∧ State.reset.chanOut = [] ∧ State.reset.gen = none

/-- The generation map over all 24-bit firmware versions (41 R160), and exactly which have none (41 R161). -/
def Obligations.GenerationMap : Prop :=
  ∀ fw : Firmware,
    (genOf fw = some .v1 ↔ fw.toNat < 0x020030 ∨ fw.toNat = 0x020600) ∧
    (genOf fw = some .v2 ↔
      (0x020030 ≤ fw.toNat ∧ fw.toNat ≠ 0x020600) ∧ (fw.toNat / 2 ^ 16 % 16 = 2 ∨ fw.toNat / 2 ^ 16 % 16 = 4)) ∧
    (genOf fw = some .v3 ↔ (0x020030 ≤ fw.toNat ∧ fw.toNat ≠ 0x020600) ∧ fw.toNat / 2 ^ 16 % 16 = 5) ∧
    (genOf fw = some .v4 ↔ (0x020030 ≤ fw.toNat ∧ fw.toNat ≠ 0x020600) ∧ 6 ≤ fw.toNat / 2 ^ 16 % 16) ∧
    (genOf fw = none ↔
      (0x020030 ≤ fw.toNat ∧ fw.toNat ≠ 0x020600) ∧
        (fw.toNat / 2 ^ 16 % 16 = 0 ∨ fw.toNat / 2 ^ 16 % 16 = 1 ∨ fw.toNat / 2 ^ 16 % 16 = 3))

/-- PROFILE_LOAD of a mapped firmware: the five registers, the frame counter and the masks; the result Ok; nothing else
(41 R165). -/
def Obligations.ProfileLoadMappedResult : Prop :=
  ∀ (fw : Firmware) (s1 : Byte) (tp : Bool) (ymax : BitVec 16) (s : State), genOf fw ≠ none →
    exec (.profileLoad fw s1 tp ymax) s =
      .next { s with
        frCount := 0, live := 0, track := 0
        cfgFw := fw, cfgS1 := s1, cfgTp := tp, cfgYmax := ymax, cfgValid := true
        results := s.results ++ [.ok] }

/-- PROFILE_LOAD of an unmapped firmware: the frame counter and the masks are cleared all the same, no profile is held, the result
is UnknownHardware with the firmware, and nothing else changes (41 R165, 60 R274). -/
def Obligations.ProfileLoadUnmappedResult : Prop :=
  ∀ (fw : Firmware) (s1 : Byte) (tp : Bool) (ymax : BitVec 16) (s : State), genOf fw = none →
    exec (.profileLoad fw s1 tp ymax) s =
      .next { s with
        frCount := 0, live := 0, track := 0, cfgValid := false
        results := s.results ++ [.err (.unknownHardware fw)] }

/-- `crc_enabled`, `ic_version`, and the check mode's three cases in priority order (10 R26, R27, R29). -/
def Obligations.CheckModePriority : Prop :=
  ∀ s : State,
    (s.crcEnabled = true ↔ s.cfgFw.toNat / 2 ^ 14 % 2 = 1) ∧ s.icVersion.toNat = s.cfgFw.toNat / 2 ^ 16 % 16 ∧
    (s.checkMode = .crc ↔ s.cfgFw.toNat / 2 ^ 14 % 2 = 1) ∧
    (s.checkMode = .ic7 ↔
      s.cfgFw.toNat / 2 ^ 14 % 2 = 0 ∧ s.cfgFw.toNat / 2 ^ 16 % 16 = 7 ∧ s.cfgS1 = 0x2A) ∧
    (s.checkMode = .default ↔
      s.cfgFw.toNat / 2 ^ 14 % 2 = 0 ∧ ¬ (s.cfgFw.toNat / 2 ^ 16 % 16 = 7 ∧ s.cfgS1 = 0x2A))

/-- Only PROFILE_LOAD and RESET write the profile registers (10 R24, R33). -/
def Obligations.ProfileWrittenOnlyByLoadAndReset : Prop :=
  ∀ (i : Instr) (s t : State), exec i s = .next t → i ≠ .reset → (∀ fw s1 tp ymax, i ≠ .profileLoad fw s1 tp ymax) →
    t.cfgValid = s.cfgValid ∧ t.cfgFw = s.cfgFw ∧ t.cfgS1 = s.cfgS1 ∧ t.cfgTp = s.cfgTp ∧ t.cfgYmax = s.cfgYmax

/-! BYTE_IN (42 R200 to R202, 20 R66). -/

/-- A byte under no profile sets `flt_unconfigured`, one under a profile that is not V4 sets `flt_unsupported`, and nothing else
changes: the byte is lost and not counted (42 R200, 60 R277). -/
def Obligations.ByteWithoutV4ProfileFaults : Prop :=
  ∀ (b : Byte) (s : State),
    (s.cfgValid = false → exec (.byteIn b) s = .next { s with fltUnconfigured := true }) ∧
    (s.cfgValid = true → s.gen ≠ some .v4 → exec (.byteIn b) s = .next { s with fltUnsupported := true })

/-- One of the first five bytes of a packet is stored at the frame counter, which advances; nothing else changes (42 R200). -/
def Obligations.ByteOfPartialPacketIsBuffered : Prop :=
  ∀ (b : Byte) (s : State) (h : s.frCount.val < 5), s.gen = some .v4 →
    exec (.byteIn b) s = .next { s with
      frBuf := s.frBuf.set s.frCount.val b, frCount := ⟨s.frCount.val + 1, by omega⟩ }

/-- The sixth byte resets the frame counter and emits exactly one record, of the kind Classify gives and with the six bytes as they
arrived (42 R202). -/
def Obligations.SixthByteCompletesPacket : Prop :=
  ∀ (b : Byte) (s : State), s.gen = some .v4 → s.frCount = 5 →
    ∃ (t : State) (ev : List PacketEvent), exec (.byteIn b) s = .next t ∧ t.frCount = 0 ∧ t.frBuf = s.frBuf.set 5 b ∧
      t.evOut = s.evOut ++
        [{ kind := classify s.pktMode (s.frBuf.set 5 b), raw := s.frBuf.set 5 b, events := ev }]

/-- Framing over any byte stream: from a packet boundary under a V4 profile, n bytes leave the counter at n mod 6 and emit n / 6
records, and byte j of record k is byte 6k + j of the stream, whatever the packets held (20 R66, 42 R201, R202, R210). -/
def Obligations.FramingOfByteStream : Prop :=
  ∀ (bs : List Byte) (s : State) (more : List Turn),
    s.gen = some .v4 → s.frCount = 0 → s.serBusy = false → s.waiting = [] →
    s.turns = bs.map (fun b => Turn.present (byteWord b)) ++ more →
    ∃ t : State, Host.Core.run Sys2Proof.core bs.length s = .next t ∧ t.turns = more ∧
      t.frCount.val = bs.length % 6 ∧
      t.evOut.length = s.evOut.length + bs.length / 6 ∧
      (∀ k, k < s.evOut.length → t.evOut[k]? = s.evOut[k]?) ∧
      (∀ k, k < bs.length / 6 → ∃ o, t.evOut[s.evOut.length + k]? = some o ∧
        ∀ j : Fin 6, some o.raw[j] = bs[6 * k + j.val]?)

/-- The fault bits: each is set by exactly the BYTE_IN accepted without a profile, or under one that is not V4, and no instruction
but RESET clears one; the status port shows both, and both are 0 after reset (10 R23). -/
def Obligations.FaultBitsAreSticky : Prop :=
  (∀ (i : Instr) (s t : State), exec i s = .next t → i ≠ .reset →
    (t.fltUnconfigured = true ↔ s.fltUnconfigured = true ∨ ((∃ b, i = .byteIn b) ∧ s.cfgValid = false)) ∧
    (t.fltUnsupported = true ↔
      s.fltUnsupported = true ∨ ((∃ b, i = .byteIn b) ∧ s.cfgValid = true ∧ s.gen ≠ some .v4))) ∧
  (∀ s t : State, exec .reset s = .next t → t.fltUnconfigured = false ∧ t.fltUnsupported = false) ∧
  (∀ s : State, s.status.fltUnconfigured = s.fltUnconfigured ∧ s.status.fltUnsupported = s.fltUnsupported) ∧
  State.reset.fltUnconfigured = false ∧ State.reset.fltUnsupported = false

/-- BYTE_IN issues no Transfer and touches no part of a request, whatever packet it completes (40 R135, 42 R211). -/
def Obligations.ByteInLeavesSerializerAlone : Prop :=
  ∀ (b : Byte) (s : State), ∃ t : State, exec (.byteIn b) s = .next t ∧
    t.chanOut = s.chanOut ∧ t.results = s.results ∧ t.serBusy = s.serBusy ∧ t.serPlan = s.serPlan ∧ t.serIdx = s.serIdx ∧
    t.serTry = s.serTry ∧ t.serRep = s.serRep ∧ t.serReq = s.serReq ∧ t.serPhase = s.serPhase ∧ t.owed = s.owed

/-! The packet rows (43_multitouch.md). -/

/-- A Status packet: the lifts are exactly the live slots absent from the mask, ascending; then the sync; `live` and `track` take
the mask; the coordinates and everything else stay (43 R231). -/
def Obligations.StatusPacketResult : Prop :=
  ∀ (p : Packet) (s : State) (i : Instr), i ∈ [Instr.pktStatusCrc p, .pktStatusIc7 p, .pktStatusDefault p] →
    ∃ (m : Mask) (ids : List Slot), m.toNat = p[1].toNat % 32 ∧ ids.Pairwise (· < ·) ∧
      (∀ k : Slot, k ∈ ids ↔ s.live.getLsbD k.val = true ∧ m.getLsbD k.val = false) ∧
      exec i s = .next { s with
        frCount := 0, live := m, track := s.track &&& m
        evOut := s.evOut ++
          [{ kind := .status, raw := p, events := ids.map PacketEvent.fingerLift ++ [.fingersSync m] }] }

/-- A Head packet with a valid slot field: x from 12 bits, y inverted against `cfg_ymax` and wrapped, the slot live and tracking;
the update, then the sync; everything else stays (43 R232, 30 R88). -/
def Obligations.HeadPacketResult : Prop :=
  ∀ (p : Packet) (s : State) (k : Slot) (i : Instr), i ∈ [Instr.pktHeadCrc p, .pktHeadIc7 p, .pktHeadDefault p] →
    p[3].toNat / 32 = k.val + 1 →
    ∃ x y : Coord, x.toNat = p[1].toNat % 16 * 256 + p[2].toNat ∧
      y = BitVec.ofInt 32 ((s.cfgYmax.toNat : Int) - (p[4].toNat % 16 * 256 + p[5].toNat : Nat)) ∧
      exec i s = .next { s with
        frCount := 0
        slotX := s.slotX.set k.val x, slotY := s.slotY.set k.val y
        live := s.live ||| 1#5 <<< k.val, track := s.track ||| 1#5 <<< k.val
        evOut := s.evOut ++
          [{ kind := .head, raw := p,
             events := [.fingerUpdate k x y, .fingersSync (s.live ||| 1#5 <<< k.val)] }] }

/-- A Motion packet with a valid primary and a valid or absent secondary slot: each tracking slot moves by the sum of its deltas
times the weight, y downwards; the updates primary first, then the sync; everything else stays (43 R233, 30 R89, R90). -/
def Obligations.MotionPacketResult : Prop :=
  ∀ (p : Packet) (s : State) (k : Slot) (sec : Option Slot) (i : Instr),
    i ∈ [Instr.pktMotionCrc p, .pktMotionIc7 p, .pktMotionDefault p] →
    p[0].toNat / 32 = k.val + 1 →
    p[3].toNat / 32 = (match sec with | none => 0 | some j => j.val + 1) →
    ∃ (w : Coord) (xs ys : Vector Coord 5),
      w = (if p[0].toNat / 16 % 2 = 1 then s.par.weight else 1) ∧
      (∀ j : Slot,
        xs[j] = s.slotX[j] + (if s.track.getLsbD j.val = true then
          ((if j = k then BitVec.ofInt 32 p[1].toInt else 0) + (if sec = some j then BitVec.ofInt 32 p[4].toInt else 0)) * w
          else 0) ∧
        ys[j] = s.slotY[j] - (if s.track.getLsbD j.val = true then
          ((if j = k then BitVec.ofInt 32 p[2].toInt else 0) + (if sec = some j then BitVec.ofInt 32 p[5].toInt else 0)) * w
          else 0)) ∧
      exec i s = .next { s with
        frCount := 0, slotX := xs, slotY := ys
        evOut := s.evOut ++
          [{ kind := .motion, raw := p,
             events :=
              (if s.track.getLsbD k.val = true then
                [.fingerUpdate k (s.slotX[k] + BitVec.ofInt 32 p[1].toInt * w) (s.slotY[k] - BitVec.ofInt 32 p[2].toInt * w)]
               else []) ++
              (match sec with
               | none => []
               | some j => if s.track.getLsbD j.val = true then [.fingerUpdate j xs[j] ys[j]] else []) ++
              [.fingersSync s.live] }] }

/-- A Head or Motion packet with a slot id out of range is dropped whole: one record that keeps its kind, and nothing else but the
frame counter (43 R236). -/
def Obligations.SlotRangeDrops : Prop :=
  ∀ (p : Packet) (s : State),
    (∀ i ∈ [Instr.pktHeadCrc p, .pktHeadIc7 p, .pktHeadDefault p],
      (p[3].toNat / 32 = 0 ∨ 6 ≤ p[3].toNat / 32) →
      exec i s = .next { s with
        frCount := 0, evOut := s.evOut ++ [{ kind := .head, raw := p, events := [.ignored] }] }) ∧
    (∀ i ∈ [Instr.pktMotionCrc p, .pktMotionIc7 p, .pktMotionDefault p],
      (p[0].toNat / 32 = 0 ∨ 6 ≤ p[0].toNat / 32 ∨ 6 ≤ p[3].toNat / 32) →
      exec i s = .next { s with
        frCount := 0, evOut := s.evOut ++ [{ kind := .motion, raw := p, events := [.ignored] }] })

/-- TrackPoint and Unknown packets write nothing but the frame counter and give one record with Ignored (43 R234, R235). -/
def Obligations.TrackPointAndUnknownResult : Prop :=
  ∀ (p : Packet) (s : State),
    exec (.pktTrackpoint p) s = .next { s with
      frCount := 0, evOut := s.evOut ++ [{ kind := .trackPoint, raw := p, events := [.ignored] }] } ∧
    ∀ i ∈ [Instr.pktUnknownSanityCrc p, .pktUnknownKind3Crc p, .pktUnknownKind3Ic7 p, .pktUnknownKind3Default p,
        .pktUnknownSanity p],
      exec i s = .next { s with
        frCount := 0, evOut := s.evOut ++ [{ kind := .unknown, raw := p, events := [.ignored] }] }

/-- Every packet row completes, with exactly one record of its kind and of the raw bytes, of 1 to 6 events (at most 3 for a
Motion), and leaves everything but the slot table, the masks, the frame counter and the event port (42 R202, 43 R240). -/
def Obligations.PacketRowsFrame : Prop :=
  ∀ (r : PktRow) (p : Packet) (s : State), ∃ (t : State) (ev : List PacketEvent),
    exec (r.instr p) s = .next t ∧
    t = { s with
      frCount := 0, slotX := t.slotX, slotY := t.slotY, live := t.live, track := t.track
      evOut := s.evOut ++ [{ kind := rowKind r, raw := p, events := ev }] } ∧
    1 ≤ ev.length ∧ ev.length ≤ 6 ∧ (rowKind r = .motion → ev.length ≤ 3)

/-- Which packets have the record [Ignored]: the Unknown and TrackPoint packets and those with a slot id out of range; each leaves
the slot table and the masks exactly as they were (43 R237). -/
def Obligations.IgnoredPacketsLeaveTable : Prop :=
  ∀ (r : PktRow) (p : Packet) (s t : State) (o : PacketOutput), exec (r.instr p) s = .next t → t.evOut = s.evOut ++ [o] →
    (o.events = [.ignored] ↔
      rowKind r = .unknown ∨ rowKind r = .trackPoint ∨
      (rowKind r = .head ∧ (p[3].toNat / 32 = 0 ∨ 6 ≤ p[3].toNat / 32)) ∨
      (rowKind r = .motion ∧ (p[0].toNat / 32 = 0 ∨ 6 ≤ p[0].toNat / 32 ∨ 6 ≤ p[3].toNat / 32))) ∧
    (o.events = [.ignored] →
      t.slotX = s.slotX ∧ t.slotY = s.slotY ∧ t.live = s.live ∧ t.track = s.track)

/-- Every coordinate a record reports is of a slot that tracks, and the last one reported for a slot is the slot's position
(43 R239). -/
def Obligations.ReportedSlotsTrack : Prop :=
  ∀ (r : PktRow) (p : Packet) (s t : State) (o : PacketOutput),
    exec (r.instr p) s = .next t → t.evOut = s.evOut ++ [o] →
    ∀ (k : Slot) (x y : Coord), .fingerUpdate k x y ∈ o.events →
      t.track.getLsbD k.val = true ∧ .fingerUpdate k t.slotX[k] t.slotY[k] ∈ o.events

/-- Packet bits no rule reads change nothing but the raw copy: two Status packets with one mask, two Heads with one slot field and
one pair of 12-bit coordinates, two Motions with one pair of slot fields, one weight bit and the same deltas (30 R91). -/
def Obligations.UnreadPacketBitsChangeOnlyRaw : Prop :=
  ∀ (r : PktRow) (p q : Packet) (s : State),
    (rowKind r = .status → p[1].toNat % 32 = q[1].toNat % 32) →
    (rowKind r = .head → p[3].toNat / 32 = q[3].toNat / 32 ∧ p[1].toNat % 16 = q[1].toNat % 16 ∧ p[2] = q[2] ∧
      p[4].toNat % 16 = q[4].toNat % 16 ∧ p[5] = q[5]) →
    (rowKind r = .motion → p[0].toNat / 16 = q[0].toNat / 16 ∧ p[3].toNat / 32 = q[3].toNat / 32 ∧
      p[1] = q[1] ∧ p[2] = q[2] ∧ p[4] = q[4] ∧ p[5] = q[5]) →
    ∃ (t : State) (ev : List PacketEvent),
      exec (r.instr p) s = .next { t with evOut := s.evOut ++ [{ kind := rowKind r, raw := p, events := ev }] } ∧
      exec (r.instr q) s = .next { t with evOut := s.evOut ++ [{ kind := rowKind r, raw := q, events := ev }] }

/-! The serializer's requests (40_register_io.md). -/

/-- A register access outside the two windows completes with InvalidRegister and its address, before any other check and with
nothing on the channel (40 R120, 60 R271). -/
def Obligations.IllegalAddressIsInvalidRegister : Prop :=
  ∀ (a v : Byte) (s : State),
    ¬ ((0x07 ≤ a.toNat ∧ a.toNat ≤ 0x11) ∨ (0x20 ≤ a.toNat ∧ a.toNat ≤ 0x26)) →
    exec (.regWrite a v) s = .next { s with results := s.results ++ [.err (.invalidRegister a)] } ∧
    exec (.regRead a) s = .next { s with results := s.results ++ [.err (.invalidRegister a)] }

/-- With no profile REG_WRITE, REG_READ and QUERY complete with NotConfigured and nothing goes on the channel; an illegal address
is reported first, as InvalidRegister (40 R136, 60 R273). -/
def Obligations.NoProfileIsNotConfigured : Prop :=
  ∀ (a v q : Byte) (s : State), s.cfgValid = false →
    (∀ i ∈ [Instr.regWrite a v, .regRead a],
      exec i s = .next { s with
        results := s.results ++
          [.err (if (0x07 ≤ a.toNat ∧ a.toNat ≤ 0x11) ∨ (0x20 ≤ a.toNat ∧ a.toNat ≤ 0x26) then .notConfigured
            else .invalidRegister a)] }) ∧
    exec (.query q) s = .next { s with results := s.results ++ [.err .notConfigured] }

/-- A request that passes its checks starts its plan: the write or read plan of the generation, the query plan of the query
dialect (sliced for V1 and V2, direct for V3 and V4), and for SLICED_QUERY always the sliced plan, with or without a
profile; nothing but the request's own state changes (40 R131 to R134, 10 R28). -/
def Obligations.RequestsStartTheirPlans : Prop :=
  ∀ (a v q : Byte) (s : State),
    (∀ g : Gen, s.gen = some g → addrOK a = true →
      exec (.regWrite a v) s = .next { s with
        serBusy := true, serPlan := writePlan s.par g a v, serIdx := 0, serTry := 1, serRep := [],
        serReq := .write a v, serPhase := .issue } ∧
      exec (.regRead a) s = .next { s with
        serBusy := true, serPlan := readPlan s.par g a, serIdx := 0, serTry := 1, serRep := [],
        serReq := .read a, serPhase := .issue }) ∧
    (∀ g : Gen, s.gen = some g →
      exec (.query q) s = .next { s with
        serBusy := true,
        serPlan := queryPlan s.par (if g = .v1 ∨ g = .v2 then .slicedPS2 else .directElan) q,
        serIdx := 0, serTry := 1, serRep := [], serReq := .query q, serPhase := .issue }) ∧
    exec (.slicedQuery q) s = .next { s with
      serBusy := true, serPlan := slicedQueryPlan s.par q, serIdx := 0, serTry := 1, serRep := [],
      serReq := .slicedQuery q, serPhase := .issue }

/-- The sliced encoding: the prefix, then four resolution commands whose arguments are the byte's base-4 digits, most significant
first (30 R96, 20 R63). -/
def Obligations.SliceIsBaseFourDigits : Prop :=
  ∀ (par : Params) (b : Byte), ∃ c3 c2 c1 c0 : Byte,
    slice par b = par.slicedPrefix ++
      [par.cmdSetRes, c3, par.cmdSetRes, c2, par.cmdSetRes, c1, par.cmdSetRes, c0] ∧
    c3.toNat < 4 ∧ c2.toNat < 4 ∧ c1.toNat < 4 ∧ c0.toNat < 4 ∧
    b.toNat = 64 * c3.toNat + 16 * c2.toNat + 4 * c1.toNat + c0.toNat

/-- The register write plans of the default table, for any command bytes and prefix (40 R124 to R126). -/
def Obligations.DefaultWritePlans : Prop :=
  ∀ (par : Params) (a v : Byte), par.table = .default →
    writePlan par .v1 a v =
      [⟨slice par par.opRegWrite, 0, false⟩, ⟨slice par a, 0, false⟩, ⟨slice par v, 0, false⟩,
       ⟨[par.cmdSetScale11], 0, false⟩] ∧
    (∀ g, g = .v2 ∨ g = .v3 → writePlan par g a v =
      [⟨[par.cmdCustom], 0, true⟩, ⟨[par.opRegWrite], 0, true⟩, ⟨[a], 0, true⟩, ⟨[v], 0, true⟩]) ∧
    writePlan par .v4 a v =
      [⟨[par.cmdCustom], 0, true⟩, ⟨[par.opRegWrite], 0, true⟩, ⟨[a], 0, true⟩, ⟨[par.opRegWrite], 0, true⟩,
       ⟨[v], 0, true⟩]

/-- The read and query plans of the default table (40 R127, R128, R130). -/
def Obligations.DefaultReadAndQueryPlans : Prop :=
  ∀ (par : Params) (a q : Byte), par.table = .default →
    readPlan par .v1 a =
      [⟨slice par par.opRegRead, 0, false⟩, ⟨slice par a, 0, false⟩, ⟨[par.cmdGetInfo], 3, false⟩] ∧
    (∀ g, g ≠ .v1 → readPlan par g a =
      [⟨[par.cmdCustom], 0, true⟩, ⟨[par.opRegRead], 0, true⟩, ⟨[a], 0, true⟩, ⟨[par.cmdGetInfo], 3, true⟩]) ∧
    queryPlan par .slicedPS2 q = [⟨slice par q, 0, false⟩, ⟨[par.cmdGetInfo], 3, false⟩] ∧
    slicedQueryPlan par q = [⟨slice par q, 0, false⟩, ⟨[par.cmdGetInfo], 3, false⟩] ∧
    queryPlan par .directElan q =
      [⟨[par.cmdCustom], 0, true⟩, ⟨[q], 0, true⟩, ⟨[par.cmdGetInfo], 3, true⟩]

/-- The dialect of a request's plan decides its retries and its framing, with the default table: a DirectElan step is one command
byte and is retried, a SlicedPS2 step is not retried; registers follow `reg_dialect`, queries `query_dialect` (10 R28, 40 R121). -/
def Obligations.DialectDecidesRetryAndFraming : Prop :=
  ∀ (par : Params) (g : Gen) (a v q : Byte), par.table = .default →
    (regDialect g = .slicedPS2 ↔ g = .v1) ∧ (queryDialect g = .slicedPS2 ↔ g = .v1 ∨ g = .v2) ∧
    (∀ st ∈ writePlan par g a v ++ readPlan par g a,
      (st.retry = true ↔ regDialect g = .directElan) ∧ (regDialect g = .directElan → st.cmds.length = 1)) ∧
    (∀ st ∈ queryPlan par (queryDialect g) q,
      (st.retry = true ↔ queryDialect g = .directElan) ∧ (queryDialect g = .directElan → st.cmds.length = 1)) ∧
    (∀ st ∈ slicedQueryPlan par q, st.retry = false)

/-- The step's Transfer goes on the channel with the step's bytes and reply count, and its answer is then awaited (40 R122): on the
block's own turn, with no turn left, or when the channel's answer is next, which stays for it. -/
def Obligations.TransferIsIssued : Prop :=
  ∀ (s : State) (st : SerStep) (more : List Turn),
    s.serBusy = true → s.serPhase = .issue → s.serPlan[s.serIdx]? = some st →
    (s.turns = .block :: more ∨ (s.turns = more ∧ (more = [] ∨ ∃ a later, more = .channel a :: later))) →
    step s = .next { s with
      turns := more, chanOut := s.chanOut ++ [.transfer st.cmds st.n], serPhase := .answer }

/-- A failed Transfer of a retried step with attempts left makes one Wait and comes back to the same step at the next attempt
(40 R122, 60 R285). -/
def Obligations.RetryWaitsThenTriesAgain : Prop :=
  ∀ (s : State) (st : SerStep) (more : List Turn),
    s.serBusy = true → s.serPhase = .answer → s.serPlan[s.serIdx]? = some st →
    st.retry = true → s.serTry.toNat < s.par.nTries.toNat → s.turns = .channel .fail :: .block :: more →
    Host.Core.run Sys2Proof.core 2 s =
      .next { s with
        turns := more, chanOut := s.chanOut ++ [.wait s.par.retryDelay], serTry := s.serTry + 1, serPhase := .issue }

/-- A failed Transfer of a step that is not retried, or at its last attempt, ends the request with TransferFail, the step's index
and the attempts made, with nothing more on the channel (60 R272, 40 R122). A reply of too few bytes is such a failure
(40 R123). -/
def Obligations.FinalFailureIsTransferFail : Prop :=
  ∀ (s : State) (st : SerStep) (a : ChanAnswer) (more : List Turn),
    s.serBusy = true → s.serPhase = .answer → s.serPlan[s.serIdx]? = some st →
    (a = .fail ∨ ∃ r, a = .ok r ∧ r.length < st.n) →
    (st.retry = false ∨ s.par.nTries.toNat ≤ s.serTry.toNat) → s.turns = .channel a :: more →
    step s = .next { s with
      turns := more, serBusy := false, results := s.results ++ [.err (.transferFail s.serIdx s.serTry)] }

/-- The last reply of a register read gives the value: its second byte under V4, its first otherwise (40 R129). -/
def Obligations.ReadValueByGeneration : Prop :=
  ∀ (s : State) (st : SerStep) (addr r0 r1 r2 : Byte) (more : List Turn),
    s.serBusy = true → s.serPhase = .answer → s.serReq = .read addr →
    s.serPlan[s.serIdx]? = some st → st.n = 3 → s.serIdx + 1 = s.serPlan.length →
    s.turns = .channel (.ok [r0, r1, r2]) :: more →
    ∃ t : State, step s = .next t ∧ t.serBusy = false ∧ t.turns = more ∧ t.chanOut = s.chanOut ∧
      t.results = s.results ++ [.okByte (if s.gen = some .v4 then r1 else r0)]

/-- While a request is in flight and no RESET is presented, a step writes only the request's own state, its two ports, the waiting
words, the turns and the count of answers still owed (log 30): not the profile, the frame, the slot table or the fault bits
(40 R135). -/
def Obligations.RequestsLeaveTheRestAlone : Prop :=
  ∀ s t : State, step s = .next t → s.serBusy = true → ¬ ResetPresented s →
    SameBlock { s with waiting := t.waiting, owed := t.owed } t

/-- The machine's moves through a request are those of Execute: for any plan and any answers with which Execute ends, the machine
puts the same Transfers and Waits on the channel in the same order, gives the result the request extracts, uses the same
answers, and changes nothing else (40 R122, R131 to R135). -/
def Obligations.RequestRefinesExecute : Prop :=
  ∀ (s : State) (plan : List SerStep) (ans : List ChanAnswer) (more : List Turn) (tr : List ChanOut) (e : ExecEnd)
    (r : Result),
    AtStart s plan → plan ≠ [] → s.turns = answers ans ++ more →
    execute s.par.nTries s.par.retryDelay plan ans = some (tr, e, []) →
    endResult s.gen s.serReq e = some r →
    ∃ (k : Nat) (t : State), Host.Core.run Sys2Proof.core k s = .next t ∧
      t.serBusy = false ∧ t.turns = more ∧ t.chanOut = s.chanOut ++ tr ∧ t.results = s.results ++ [r] ∧ SameBlock s t

/-- Execute's bounds (40 R122). The trace is that of the plan's steps in order, each k failed attempts with a Wait after each, then
one last attempt: k + 1 is at most max(1, N_TRIES), and 1 on a step that is not retried. Every step of the plan is made when
Execute ends with replies; when it ends with TransferFail, the failing step is the last one made, and its attempts are those
reported. So the plan makes at most max(1, N_TRIES) Transfers and N_TRIES - 1 Waits a step, and every Wait stands between two
Transfers of one retried step. -/
def Obligations.RetriesAreBounded : Prop :=
  ∀ (nTries : Byte) (delay : Nat) (plan : List SerStep) (ans rest : List ChanAnswer) (tr : List ChanOut) (e : ExecEnd),
    execute nTries delay plan ans = some (tr, e, rest) →
    (∃ ks : List Nat, tr = (List.zipWith (stepTrace delay) plan ks).flatten ∧ ks.length ≤ plan.length ∧
      (∀ (j k : Nat) (st : SerStep), plan[j]? = some st → ks[j]? = some k →
        k + 1 ≤ max 1 nTries.toNat ∧ (st.retry = false → k = 0)) ∧
      (∀ rep, e = .replies rep → ks.length = plan.length) ∧
      (∀ i a, e = .failed i a → ks.length = i + 1 ∧ ∃ k, ks[i]? = some k ∧ a.toNat = k + 1)) ∧
    tr.countP ChanOut.isTransfer ≤ plan.length * max 1 nTries.toNat ∧
    tr.countP (fun o => o == .wait delay) ≤ plan.length * (nTries.toNat - 1) ∧
    tr.length ≤ plan.length * (2 * max 1 nTries.toNat - 1) ∧
    ∀ j d, tr[j]? = some (.wait d) →
      0 < j ∧ ∃ st ∈ plan, st.retry = true ∧
        tr[j - 1]? = some (.transfer st.cmds st.n) ∧ tr[j + 1]? = some (.transfer st.cmds st.n)

/-- Every request completes when the channel answers each of its Transfers with Ok: the plan's Transfers go out in order, the
result is Ok of a write, the value byte of a read and all three bytes of a query's last reply, the block is idle again, and
nothing else has changed (40 R131 to R134). For a SLICED_QUERY the last reply is the rep[1] of 40 R134 where its plan has two
steps, as the default table's has; with another table the last reply is the model's reading (log 23). -/
def Obligations.RequestsCompleteWhenAnswered : Prop :=
  ∀ (i : Instr) (plan : List SerStep) (res : Result) (s : State) (w : TxWord) (reps : List (List Byte)) (more : List Turn)
    (r0 r1 r2 : Byte),
    Presents s w (okTurns reps ++ more) → decodeTx w = .ok i →
    ((∃ g a v, s.gen = some g ∧ addrOK a = true ∧ i = .regWrite a v ∧ plan = writePlan s.par g a v ∧ res = .ok) ∨
     (reps.getLast? = some [r0, r1, r2] ∧
      ((∃ g a, s.gen = some g ∧ addrOK a = true ∧ i = .regRead a ∧ plan = readPlan s.par g a ∧
          res = .okByte (if g = .v4 then r1 else r0)) ∨
       (∃ g q, s.gen = some g ∧ i = .query q ∧ plan = queryPlan s.par (queryDialect g) q ∧ res = .okBytes r0 r1 r2) ∨
       (∃ q, i = .slicedQuery q ∧ plan = slicedQueryPlan s.par q ∧ res = .okBytes r0 r1 r2)))) →
    plan ≠ [] → reps.map List.length = plan.map SerStep.n →
    ∃ (k : Nat) (t : State), Host.Core.run Sys2Proof.core k s = .next t ∧
      t.serBusy = false ∧ t.turns = more ∧ t.chanOut = s.chanOut ++ planTransfers plan ∧ t.results = s.results ++ [res] ∧
      SameBlock s t

/-- A register written and read back over a channel that stores it: with the default table, a legal address and no Fail, the write
gives Ok and the read gives the value written, in every generation (40 R139). -/
def Obligations.RegisterRoundTrip : Prop :=
  ∀ (s : State) (g : Gen) (a v r0 r1 r2 : Byte) (wWord rWord : TxWord) (wReps rReps : List (List Byte)) (more : List Turn),
    s.par.table = .default → s.gen = some g → addrOK a = true →
    decodeTx wWord = .ok (.regWrite a v) → decodeTx rWord = .ok (.regRead a) →
    wReps = List.replicate (writePlan s.par g a v).length [] →
    rReps = List.replicate ((readPlan s.par g a).length - 1) [] ++ [[r0, r1, r2]] →
    (g = .v4 → r1 = v) → (g ≠ .v4 → r0 = v) →
    Presents s wWord (okTurns wReps ++ .present rWord :: (okTurns rReps ++ more)) →
    ∃ (k : Nat) (t : State), Host.Core.run Sys2Proof.core k s = .next t ∧
      t.serBusy = false ∧ t.turns = more ∧ t.results = s.results ++ [.ok, .okByte v] ∧
      t.chanOut = s.chanOut ++ planTransfers (writePlan s.par g a v) ++ planTransfers (readPlan s.par g a)

/-- The Transfer and byte counts of each request in each generation, with the default table and an empty prefix (40 R137). -/
def Obligations.TransferCounts : Prop :=
  ∀ (par : Params) (a v q : Byte), par.table = .default → par.slicedPrefix = [] →
    let size := fun (pl : List SerStep) => (pl.length, (pl.map (fun st => st.cmds.length)).sum, (pl.map SerStep.n).sum)
    [Gen.v1, .v2, .v3, .v4].map (fun g => size (writePlan par g a v)) = [(4, 25, 0), (4, 4, 0), (4, 4, 0), (5, 5, 0)] ∧
    [Gen.v1, .v2, .v3, .v4].map (fun g => size (readPlan par g a)) = [(3, 17, 3), (4, 4, 3), (4, 4, 3), (4, 4, 3)] ∧
    [Gen.v1, .v2, .v3, .v4].map (fun g => size (queryPlan par (queryDialect g) q)) =
      [(2, 9, 3), (2, 9, 3), (3, 3, 3), (3, 3, 3)] ∧
    size (slicedQueryPlan par q) = (2, 9, 3)

/-- A channel that never answers holds the block in the request for ever: no number of steps changes anything (70 R305). -/
def Obligations.SilentChannelHoldsRequest : Prop :=
  ∀ (s : State) (k : Nat), s.serBusy = true → s.serPhase = .answer → s.turns = [] →
    Host.Core.run Sys2Proof.core k s = .next s

/-! The whole machine. -/

/-- The invariant holds at reset. -/
def Obligations.ResetMeetsInvariant : Prop := Invariant State.reset

/-- Every step keeps the invariant: tracking slots are live (10 R32, 43 R238), a loaded profile has a generation (10 R24), and a
request in flight is consistent with its plan (10 R41, 40 R122). -/
def Obligations.StepKeepsInvariant : Prop := ∀ s t : State, Invariant s → step s = .next t → Invariant t

/-- Under the invariant the machine stops only when the channel breaks its contract by answering though every Transfer issued has
its answer, and it never refuses (60 R286). The stop is the model's (log 10), as is the count of the answers owed to Transfers
that a RESET abandoned (log 30). -/
def Obligations.MachineStopsOnlyOnStrayAnswer : Prop :=
  ∀ s : State, Invariant s →
    (∀ r, step s ≠ .refused r) ∧
    (∀ f, step s = .fault f ↔
      f = .strayAnswer ∧ s.owed = 0 ∧
        ((s.serBusy = false ∧ s.waiting = [] ∧ ∃ a more, s.turns = .channel a :: more) ∨
         ((s.serBusy = true ∨ s.waiting = []) ∧ ∃ a more, s.turns = .late a :: more)))

/-- No output depends on an element whose value is unspecified: two states that agree on everything else take steps that agree on
everything else, on all ports and stops included (10 R43). -/
def Obligations.UnspecifiedElementsAreUnobserved : Prop :=
  ∀ s t : State, Agree s t → AgreeOutcome (step s) (step t)

/-- The status port shows no element whose value is unspecified: states that agree on everything else show the same port
(10 R39, R43). -/
def Obligations.StatusPortShowsNoUnspecified : Prop :=
  ∀ s t : State, Agree s t → s.status = t.status

/-- A step only adds to the ports, at most one record, one result and one channel item, and never changes the parameters
(10 R35 to R38, 70 R312). -/
def Obligations.PortsOnlyGrow : Prop :=
  ∀ s t : State, step s = .next t →
    t.par = s.par ∧
    (t.evOut = s.evOut ∨ ∃ o, t.evOut = s.evOut ++ [o]) ∧
    (t.results = s.results ∨ ∃ r, t.results = s.results ++ [r]) ∧
    (t.chanOut = s.chanOut ∨ ∃ c, t.chanOut = s.chanOut ++ [c])

/-! The host's reference functions (41_profile.md part B). -/

/-- The signature check in closed form (41 R171). -/
def Obligations.SignatureCheck : Prop :=
  ∀ b0 b1 b2 : Byte, sigValid b0 b1 b2 = true ↔
    b0.toNat ≠ 0 ∧
      (b1.toNat = 0 ∨
       (6 ≤ b0.toNat % 16 ∧ b1 &&& 0xAF = 0x0F ∧ b2.toNat < 40) ∨
       b2.toNat ∉ [200, 100, 80, 60, 40, 20, 10])

/-- The V3 and V4 bounds packing, and that the host's y_max reaches PROFILE_LOAD unchanged: any y_max of 16 bits, those of a packed
reply among them (20 R60, 41 R176, R183). -/
def Obligations.BoundsPacking : Prop :=
  (∀ r : Reply3,
    (packedXMax r).toNat = r.b0.toNat % 16 * 256 + r.b1.toNat ∧
    (packedYMax r).toNat = r.b0.toNat / 16 * 256 + r.b2.toNat) ∧
  (∀ p : DeviceProfile, 0 ≤ p.bounds.yMax → p.bounds.yMax < 65536 → ∃ ymax : BitVec 16, (ymax.toNat : Int) = p.bounds.yMax ∧
    profileOf p = .profileLoad p.fw p.samples.b1 p.tp ymax) ∧
  (∀ (hp : HostParams) (r : Reply3) (p : DeviceProfile), p.bounds = packedBounds hp r →
    ∃ ymax : BitVec 16, ymax.toNat = (packedYMax r).toNat ∧ profileOf p = .profileLoad p.fw p.samples.b1 p.tp ymax)

/-- The V4 column-trace rule with its width, the row-trace rule, the geometry made of capability bytes 1 and 2, and the resolution
conversion: truncating division, and its values for every 4-bit operand (41 R177 to R179). -/
def Obligations.TraceAndResolutionRules : Prop :=
  (∀ (traces xMax c yMax : Nat),
    ((∃ w, traceWidth traces xMax = .ok w) ↔ 2 ≤ traces ∧ traces ≤ xMax) ∧
    (∀ w, traceWidth traces xMax = .ok w → w * (traces - 1) ≤ xMax ∧ xMax < (w + 1) * (traces - 1)) ∧
    (∀ e, traceWidth traces xMax = .error e → e = .geometryFail) ∧
    (rowTraces c yMax = some c ↔ 2 ≤ c ∧ c ≤ yMax) ∧
    (rowTraces c yMax = none ↔ ¬ (2 ≤ c ∧ c ≤ yMax))) ∧
  (∀ (caps fwid : Reply3) (t : TraceGeometry), traceGeometry caps fwid = .ok t ↔
    2 ≤ caps.b1.toNat ∧ caps.b1.toNat ≤ (packedXMax fwid).toNat ∧ t.xTraces = caps.b1.toNat ∧
    t.width = (packedXMax fwid).toNat / (caps.b1.toNat - 1) ∧
    t.yTraces = (if 2 ≤ caps.b2.toNat ∧ caps.b2.toNat ≤ (packedYMax fwid).toNat then some caps.b2.toNat else none)) ∧
  (∀ n : Nat, 254 * convertRes n ≤ (n * 10 + 790) * 10 ∧ (n * 10 + 790) * 10 < 254 * (convertRes n + 1)) ∧
  (List.range 16).map convertRes = [31, 31, 31, 32, 32, 33, 33, 33, 34, 34, 35, 35, 35, 36, 36, 37]

/-- Detection, resolution and the boot order fail closed. A firmware version comes out of detection exactly from a good knock and a
valid signature, packed high byte first. A profile comes out of resolution only for a known generation without the known bug,
with each maximum above its minimum and, on V4, the traces of a column count in range. The boot order ends with a profile exactly
when every answer is good and resolution gives it; a bad knock, a bad or failed firmware query, an unmapped firmware, a failed
query and a failed resolution each stop it where they occur; only a boot that ends with a profile loads one beyond the
preliminary, and it loads the resolved one (41 R170 to R173, R177, R178, R181 to R183, 70 R302, 20 R60). -/
def Obligations.DetectionAndResolutionFailClosed : Prop :=
  (∀ (knock : Option Reply3) (fwver : Except Err Reply3) (fw : Firmware),
    detect knock fwver = .ok fw ↔
      GoodKnock knock ∧ ∃ r : Reply3, fwver = .ok r ∧ sigValid r.b0 r.b1 r.b2 = true ∧
        fw.toNat = r.b0.toNat * 65536 + r.b1.toNat * 256 + r.b2.toNat) ∧
  (∀ (hp : HostParams) (pol : HostPolicy) (fw : Firmware) (caps samples fwid : Reply3) (res : Option Reply3)
      (p : DeviceProfile),
    resolve hp pol fw caps samples fwid res = .ok p →
      genOf fw = some p.gen ∧ p.fw = fw ∧ p.samples = samples ∧ ¬ (p.gen = .v3 ∧ samples.b1 = 0x74) ∧
      p.bounds.xMin < p.bounds.xMax ∧ p.bounds.yMin < p.bounds.yMax ∧
      (p.gen = .v4 → 2 ≤ caps.b1.toNat ∧ caps.b1.toNat ≤ (packedXMax fwid).toNat ∧
        ∃ t, traceGeometry caps fwid = .ok t ∧ p.traces = some t)) ∧
  (∀ (hp : HostParams) (pol : HostPolicy) (writes : DeviceProfile → List (Byte × Byte)) (r : BootReplies),
    let b := boot hp pol writes r
    b.outcome = identifyAndResolve hp pol r ∧
    (∀ p, b.outcome = .ok p ↔
      ∃ (fw : Firmware) (caps samples fwid : Reply3) (res : Option Reply3),
        detect r.knock r.fwver = .ok fw ∧ r.caps = .ok caps ∧ r.samples = .ok samples ∧ r.fwid = .ok fwid ∧
        (if genOf fw = some .v4 then ∃ x, r.res = .ok x ∧ res = some x else res = none) ∧
        resolve hp pol fw caps samples fwid res = .ok p) ∧
    (∀ p, b.outcome = .ok p →
      b.acts = identifyActs hp p.fw ++ .present (profileOf p) :: (writes p).map (fun w => .present (.regWrite w.1 w.2))) ∧
    (¬ GoodKnock r.knock → b.acts = [.present .reset, .knock hp.knockSeq] ∧ b.outcome = .error .notElantech) ∧
    (∀ e, GoodKnock r.knock →
      (r.fwver = .error e ∨ ∃ x, r.fwver = .ok x ∧ sigValid x.b0 x.b1 x.b2 = false ∧ e = .notElantech) →
      b.acts = [.present .reset, .knock hp.knockSeq, .present (.slicedQuery hp.fwverQuery)] ∧ b.outcome = .error e) ∧
    (∀ fw, detect r.knock r.fwver = .ok fw →
      (genOf fw = none → b.acts = (identifyActs hp fw).take 4 ∧ b.outcome = .error (.unknownHardware fw)) ∧
      (genOf fw ≠ none →
        (∀ e, r.caps = .error e → b.acts = (identifyActs hp fw).take 5 ∧ b.outcome = .error e) ∧
        (∀ c e, r.caps = .ok c → r.samples = .error e → b.acts = (identifyActs hp fw).take 6 ∧ b.outcome = .error e) ∧
        (∀ c s e, r.caps = .ok c → r.samples = .ok s → r.fwid = .error e →
          b.acts = (identifyActs hp fw).take 7 ∧ b.outcome = .error e) ∧
        (∀ c s f, r.caps = .ok c → r.samples = .ok s → r.fwid = .ok f → ∀ e, b.outcome = .error e →
          b.acts = identifyActs hp fw ∧ ((genOf fw = some .v4 ∧ r.res = .error e) ∨ e = .geometryFail)))) ∧
    (∀ fw s1 tp ymax, .present (.profileLoad fw s1 tp ymax) ∈ b.acts →
      (s1 = 0 ∧ tp = false ∧ ymax = 0) ∨ ∃ p, b.outcome = .ok p ∧ Instr.profileLoad fw s1 tp ymax = profileOf p))
end

