-- ==== Sys2Proof/Laws/Decode.lean ====
section
/-! SUPPORT. Packet words byte by byte, and the classification map in terms of the header bytes (30 R82, R92). -/

namespace Sys2Proof

theorem append_eq_append_iff {v w : Nat} {a b : BitVec v} {c d : BitVec w} : a ++ c = b ++ d ↔ a = b ∧ c = d := by
  constructor
  · intro h
    constructor
    · have := congrArg (fun x => BitVec.extractLsb' w v x) h
      simpa [BitVec.extractLsb'_append_eq_left] using this
    · have := congrArg (fun x => BitVec.extractLsb' 0 w x) h
      simpa [BitVec.extractLsb'_append_eq_right] using this
  · rintro ⟨rfl, rfl⟩; rfl

/-- A mask and a pattern that are themselves packets apply byte by byte (30 R82, R92). -/
theorem word_and_eq_iff (p m d : Packet) :
    p.word &&& m.word = d.word ↔
      p[0] &&& m[0] = d[0] ∧ p[1] &&& m[1] = d[1] ∧ p[2] &&& m[2] = d[2] ∧
        p[3] &&& m[3] = d[3] ∧ p[4] &&& m[4] = d[4] ∧ p[5] &&& m[5] = d[5] := by
  have step : ∀ {v : Nat} (x m d : BitVec v) (y n e : Byte),
      (x ++ y) &&& (m ++ n) = d ++ e ↔ (x &&& m = d ∧ y &&& n = e) := by
    intro v x m d y n e
    rw [BitVec.and_append, append_eq_append_iff]
  refine (step (v := 40) _ _ _ _ _ _).trans ?_
  refine (and_congr_left' (step (v := 32) _ _ _ _ _ _)).trans ?_
  refine (and_congr_left' (and_congr_left' (step (v := 24) _ _ _ _ _ _))).trans ?_
  refine (and_congr_left' (and_congr_left' (and_congr_left' (step (v := 16) _ _ _ _ _ _)))).trans ?_
  refine (and_congr_left' (and_congr_left' (and_congr_left' (and_congr_left' (step (v := 8) _ _ _ _ _ _))))).trans ?_
  simp only [and_assoc]

theorem ofWord_word (p : Packet) : Packet.ofWord p.word = p := by
  have h : ∀ {v : Nat} (x : BitVec v) (y : Byte) (s : Nat), (x ++ y).extractLsb' (8 + s) 8 = x.extractLsb' s 8 := by
    intro v x y s
    rw [BitVec.extractLsb'_append_eq_of_le (by omega)]
    congr 1
    omega
  have h0 : ∀ {v : Nat} (x : BitVec v) (y : Byte), (x ++ y).extractLsb' 0 8 = y := by
    intro v x y
    exact BitVec.extractLsb'_append_eq_right
  have e5 : p.word.extractLsb' 0 8 = p[5] := h0 (v := 40) _ _
  have e4 : p.word.extractLsb' 8 8 = p[4] := (h (v := 40) _ _ 0).trans (h0 (v := 32) _ _)
  have e3 : p.word.extractLsb' 16 8 = p[3] :=
    (h (v := 40) _ _ 8).trans ((h (v := 32) _ _ 0).trans (h0 (v := 24) _ _))
  have e2 : p.word.extractLsb' 24 8 = p[2] :=
    (h (v := 40) _ _ 16).trans ((h (v := 32) _ _ 8).trans ((h (v := 24) _ _ 0).trans (h0 (v := 16) _ _)))
  have e1 : p.word.extractLsb' 32 8 = p[1] :=
    (h (v := 40) _ _ 24).trans ((h (v := 32) _ _ 16).trans ((h (v := 24) _ _ 8).trans
      ((h (v := 16) _ _ 0).trans (h0 (v := 8) _ _))))
  have e0 : p.word.extractLsb' 40 8 = p[0] :=
    (h (v := 40) _ _ 32).trans ((h (v := 32) _ _ 24).trans ((h (v := 24) _ _ 16).trans
      ((h (v := 16) _ _ 8).trans ((h (v := 8) _ _ 0).trans BitVec.extractLsb'_eq_self))))
  simp only [Packet.ofWord, e0, e1, e2, e3, e4, e5]
  apply Vector.ext
  intro i hi
  match i, hi with
  | 0, _ | 1, _ | 2, _ | 3, _ | 4, _ | 5, _ => rfl

theorem extract_append_extract {w : Nat} (x : BitVec w) (s n m : Nat) :
    x.extractLsb' (s + m) n ++ x.extractLsb' s m = x.extractLsb' s (n + m) := by
  apply BitVec.eq_of_getLsbD_eq
  intro i hi
  simp only [BitVec.getLsbD_append, BitVec.getLsbD_extractLsb', hi, decide_true, Bool.true_and]
  split
  · rename_i h; simp [h]
  · rename_i h
    have h1 : i - m < n := by omega
    have h2 : s + m + (i - m) = s + i := by omega
    simp [h1, h2]

theorem word_ofWord (w : PktWord) : (Packet.ofWord w).word = w := by
  have e : (Packet.ofWord w).word =
      w.extractLsb' 40 8 ++ w.extractLsb' 32 8 ++ w.extractLsb' 24 8 ++ w.extractLsb' 16 8 ++ w.extractLsb' 8 8 ++
        w.extractLsb' 0 8 := rfl
  rw [e]
  have h1 := extract_append_extract w 32 8 8
  have h2 := extract_append_extract w 24 16 8
  have h3 := extract_append_extract w 16 24 8
  have h4 := extract_append_extract w 8 32 8
  have h5 := extract_append_extract w 0 40 8
  rw [h1, h2, h3, h4, h5]
  exact BitVec.extractLsb'_eq_self

/-- A row of the map that looks at `p[3]` alone. -/
theorem word_and_header3 (p : Packet) (a b : Byte) :
    p.word &&& Packet.word #v[0, 0, 0, a, 0, 0] = Packet.word #v[0, 0, 0, b, 0, 0] ↔ p[3] &&& a = b := by
  rw [word_and_eq_iff]
  simp

/-- A row of the map that looks at `p[0]` and `p[3]`. -/
theorem word_and_header03 (p : Packet) (a b x y : Byte) :
    p.word &&& Packet.word #v[x, 0, 0, a, 0, 0] = Packet.word #v[y, 0, 0, b, 0, 0] ↔
      p[0] &&& x = y ∧ p[3] &&& a = b := by
  rw [word_and_eq_iff]
  simp

end Sys2Proof
end

