-- ==== Sys2Proof/Laws/HostSide.lean ====
section
/-! SUPPORT. What the parts of the host's boot order can do, said once (41 R170 to R182, 70 R302). -/

namespace Sys2Proof.Machine

variable {α β : Type}

@[simp] theorem HostRun.act_acts (a : HostAct) (e : Except Err α) : (HostRun.act a e).acts = [a] := rfl
@[simp] theorem HostRun.act_outcome (a : HostAct) (e : Except Err α) : (HostRun.act a e).outcome = e := rfl

/-- After a part that succeeds the next one runs. -/
theorem HostRun.andThen_ok {r : HostRun α} {a : α} (f : α → HostRun β) (h : r.outcome = .ok a) :
    r.andThen f = ⟨r.acts ++ (f a).acts, (f a).outcome⟩ := by
  unfold HostRun.andThen; rw [h]

/-- After a part that fails nothing runs. -/
theorem HostRun.andThen_error {r : HostRun α} {e : Err} (f : α → HostRun β) (h : r.outcome = .error e) :
    r.andThen f = ⟨r.acts, .error e⟩ := by
  unfold HostRun.andThen; rw [h]

/-- A sequence succeeds exactly when both parts do. -/
theorem HostRun.andThen_outcome_ok {r : HostRun α} {f : α → HostRun β} {b : β} :
    (r.andThen f).outcome = .ok b ↔ ∃ a, r.outcome = .ok a ∧ (f a).outcome = .ok b := by
  cases h : r.outcome with
  | ok a => simp [HostRun.andThen_ok f h]
  | error e => simp [HostRun.andThen_error f h]

/-- A knock passes exactly with a good reply. -/
theorem checkKnock_ok {knock : Option Reply3} :
    checkKnock knock = .ok () ↔ ∃ k, knock = some k ∧ knockOK k.b0 k.b1 k.b2 = true := by
  unfold checkKnock
  split <;> simp

/-- Detection is the two checks in turn. -/
theorem detect_ok {knock : Option Reply3} {fwver : Except Err Reply3} {fw : Firmware} :
    detect knock fwver = .ok fw ↔ checkKnock knock = .ok () ∧ firmwareOf fwver = .ok fw := by
  unfold detect
  cases checkKnock knock <;> simp

/-- What a resolved profile came from. -/
theorem resolve_next {hp : HostParams} {pol : HostPolicy} {fw : Firmware} {caps samples fwid : Reply3} {res : Option Reply3}
    {p : DeviceProfile} (h : resolve hp pol fw caps samples fwid res = .ok p) :
    genOf fw = some p.gen ∧ knownBug fw samples.b1 = false ∧ resolveTraces p.gen caps fwid = .ok p.traces ∧
      p.bounds = resolveBounds hp pol p.gen fw caps samples fwid ∧ p.fw = fw ∧ p.caps = caps ∧ p.samples = samples ∧
      p.tp = pol.tp ∧ p.resolution = resolution hp pol res := by
  unfold resolve at h
  split at h
  · cases h
  · rename_i g hg
    split at h
    · cases h
    · rename_i hk
      split at h
      · cases h
      · rename_i tr ht
        dsimp only at h
        split at h
        · cases h; exact ⟨hg, by simpa using hk, ht, rfl, rfl, rfl, rfl, rfl, rfl⟩
        · cases h

end Sys2Proof.Machine
end

