-- ==== Sys2Proof/Laws/State.lean ====
section
/-! SUPPORT. What each state update does to each field, so that no proof unfolds a record update. -/

namespace Sys2Proof.Machine

variable (s : State)

@[simp] theorem State.raise_eq (e : Err) : s.raise e = s.result (.err e) := rfl

@[simp] theorem State.emit_par (o : PacketOutput) : (s.emit o).par = s.par := rfl
@[simp] theorem State.emit_fltUnconfigured (o : PacketOutput) : (s.emit o).fltUnconfigured = s.fltUnconfigured := rfl
@[simp] theorem State.emit_fltUnsupported (o : PacketOutput) : (s.emit o).fltUnsupported = s.fltUnsupported := rfl
@[simp] theorem State.emit_cfgValid (o : PacketOutput) : (s.emit o).cfgValid = s.cfgValid := rfl
@[simp] theorem State.emit_cfgFw (o : PacketOutput) : (s.emit o).cfgFw = s.cfgFw := rfl
@[simp] theorem State.emit_cfgS1 (o : PacketOutput) : (s.emit o).cfgS1 = s.cfgS1 := rfl
@[simp] theorem State.emit_cfgTp (o : PacketOutput) : (s.emit o).cfgTp = s.cfgTp := rfl
@[simp] theorem State.emit_cfgYmax (o : PacketOutput) : (s.emit o).cfgYmax = s.cfgYmax := rfl
@[simp] theorem State.emit_slotX (o : PacketOutput) : (s.emit o).slotX = s.slotX := rfl
@[simp] theorem State.emit_slotY (o : PacketOutput) : (s.emit o).slotY = s.slotY := rfl
@[simp] theorem State.emit_live (o : PacketOutput) : (s.emit o).live = s.live := rfl
@[simp] theorem State.emit_track (o : PacketOutput) : (s.emit o).track = s.track := rfl
@[simp] theorem State.emit_frBuf (o : PacketOutput) : (s.emit o).frBuf = s.frBuf := rfl
@[simp] theorem State.emit_frCount (o : PacketOutput) : (s.emit o).frCount = s.frCount := rfl
@[simp] theorem State.emit_serBusy (o : PacketOutput) : (s.emit o).serBusy = s.serBusy := rfl
@[simp] theorem State.emit_serPlan (o : PacketOutput) : (s.emit o).serPlan = s.serPlan := rfl
@[simp] theorem State.emit_serIdx (o : PacketOutput) : (s.emit o).serIdx = s.serIdx := rfl
@[simp] theorem State.emit_serTry (o : PacketOutput) : (s.emit o).serTry = s.serTry := rfl
@[simp] theorem State.emit_serRep (o : PacketOutput) : (s.emit o).serRep = s.serRep := rfl
@[simp] theorem State.emit_serReq (o : PacketOutput) : (s.emit o).serReq = s.serReq := rfl
@[simp] theorem State.emit_serPhase (o : PacketOutput) : (s.emit o).serPhase = s.serPhase := rfl
@[simp] theorem State.emit_waiting (o : PacketOutput) : (s.emit o).waiting = s.waiting := rfl
@[simp] theorem State.emit_turns (o : PacketOutput) : (s.emit o).turns = s.turns := rfl
@[simp] theorem State.emit_evOut (o : PacketOutput) : (s.emit o).evOut = s.evOut ++ [o] := rfl
@[simp] theorem State.emit_results (o : PacketOutput) : (s.emit o).results = s.results := rfl
@[simp] theorem State.emit_chanOut (o : PacketOutput) : (s.emit o).chanOut = s.chanOut := rfl
@[simp] theorem State.emit_owed (o : PacketOutput) : (s.emit o).owed = s.owed := rfl
@[simp] theorem State.emit_refusedMark (o : PacketOutput) : (s.emit o).refusedMark = s.refusedMark := rfl
@[simp] theorem State.emit_freeCount (o : PacketOutput) : (s.emit o).freeCount = s.freeCount := rfl

@[simp] theorem State.result_par (r : Result) : (s.result r).par = s.par := rfl
@[simp] theorem State.result_fltUnconfigured (r : Result) : (s.result r).fltUnconfigured = s.fltUnconfigured := rfl
@[simp] theorem State.result_fltUnsupported (r : Result) : (s.result r).fltUnsupported = s.fltUnsupported := rfl
@[simp] theorem State.result_cfgValid (r : Result) : (s.result r).cfgValid = s.cfgValid := rfl
@[simp] theorem State.result_cfgFw (r : Result) : (s.result r).cfgFw = s.cfgFw := rfl
@[simp] theorem State.result_cfgS1 (r : Result) : (s.result r).cfgS1 = s.cfgS1 := rfl
@[simp] theorem State.result_cfgTp (r : Result) : (s.result r).cfgTp = s.cfgTp := rfl
@[simp] theorem State.result_cfgYmax (r : Result) : (s.result r).cfgYmax = s.cfgYmax := rfl
@[simp] theorem State.result_slotX (r : Result) : (s.result r).slotX = s.slotX := rfl
@[simp] theorem State.result_slotY (r : Result) : (s.result r).slotY = s.slotY := rfl
@[simp] theorem State.result_live (r : Result) : (s.result r).live = s.live := rfl
@[simp] theorem State.result_track (r : Result) : (s.result r).track = s.track := rfl
@[simp] theorem State.result_frBuf (r : Result) : (s.result r).frBuf = s.frBuf := rfl
@[simp] theorem State.result_frCount (r : Result) : (s.result r).frCount = s.frCount := rfl
@[simp] theorem State.result_serBusy (r : Result) : (s.result r).serBusy = s.serBusy := rfl
@[simp] theorem State.result_serPlan (r : Result) : (s.result r).serPlan = s.serPlan := rfl
@[simp] theorem State.result_serIdx (r : Result) : (s.result r).serIdx = s.serIdx := rfl
@[simp] theorem State.result_serTry (r : Result) : (s.result r).serTry = s.serTry := rfl
@[simp] theorem State.result_serRep (r : Result) : (s.result r).serRep = s.serRep := rfl
@[simp] theorem State.result_serReq (r : Result) : (s.result r).serReq = s.serReq := rfl
@[simp] theorem State.result_serPhase (r : Result) : (s.result r).serPhase = s.serPhase := rfl
@[simp] theorem State.result_waiting (r : Result) : (s.result r).waiting = s.waiting := rfl
@[simp] theorem State.result_turns (r : Result) : (s.result r).turns = s.turns := rfl
@[simp] theorem State.result_evOut (r : Result) : (s.result r).evOut = s.evOut := rfl
@[simp] theorem State.result_results (r : Result) : (s.result r).results = s.results ++ [r] := rfl
@[simp] theorem State.result_chanOut (r : Result) : (s.result r).chanOut = s.chanOut := rfl
@[simp] theorem State.result_owed (r : Result) : (s.result r).owed = s.owed := rfl
@[simp] theorem State.result_refusedMark (r : Result) : (s.result r).refusedMark = s.refusedMark := rfl
@[simp] theorem State.result_freeCount (r : Result) : (s.result r).freeCount = s.freeCount := rfl

@[simp] theorem State.sendChannel_par (o : ChanOut) : (s.sendChannel o).par = s.par := rfl
@[simp] theorem State.sendChannel_fltUnconfigured (o : ChanOut) : (s.sendChannel o).fltUnconfigured = s.fltUnconfigured := rfl
@[simp] theorem State.sendChannel_fltUnsupported (o : ChanOut) : (s.sendChannel o).fltUnsupported = s.fltUnsupported := rfl
@[simp] theorem State.sendChannel_cfgValid (o : ChanOut) : (s.sendChannel o).cfgValid = s.cfgValid := rfl
@[simp] theorem State.sendChannel_cfgFw (o : ChanOut) : (s.sendChannel o).cfgFw = s.cfgFw := rfl
@[simp] theorem State.sendChannel_cfgS1 (o : ChanOut) : (s.sendChannel o).cfgS1 = s.cfgS1 := rfl
@[simp] theorem State.sendChannel_cfgTp (o : ChanOut) : (s.sendChannel o).cfgTp = s.cfgTp := rfl
@[simp] theorem State.sendChannel_cfgYmax (o : ChanOut) : (s.sendChannel o).cfgYmax = s.cfgYmax := rfl
@[simp] theorem State.sendChannel_slotX (o : ChanOut) : (s.sendChannel o).slotX = s.slotX := rfl
@[simp] theorem State.sendChannel_slotY (o : ChanOut) : (s.sendChannel o).slotY = s.slotY := rfl
@[simp] theorem State.sendChannel_live (o : ChanOut) : (s.sendChannel o).live = s.live := rfl
@[simp] theorem State.sendChannel_track (o : ChanOut) : (s.sendChannel o).track = s.track := rfl
@[simp] theorem State.sendChannel_frBuf (o : ChanOut) : (s.sendChannel o).frBuf = s.frBuf := rfl
@[simp] theorem State.sendChannel_frCount (o : ChanOut) : (s.sendChannel o).frCount = s.frCount := rfl
@[simp] theorem State.sendChannel_serBusy (o : ChanOut) : (s.sendChannel o).serBusy = s.serBusy := rfl
@[simp] theorem State.sendChannel_serPlan (o : ChanOut) : (s.sendChannel o).serPlan = s.serPlan := rfl
@[simp] theorem State.sendChannel_serIdx (o : ChanOut) : (s.sendChannel o).serIdx = s.serIdx := rfl
@[simp] theorem State.sendChannel_serTry (o : ChanOut) : (s.sendChannel o).serTry = s.serTry := rfl
@[simp] theorem State.sendChannel_serRep (o : ChanOut) : (s.sendChannel o).serRep = s.serRep := rfl
@[simp] theorem State.sendChannel_serReq (o : ChanOut) : (s.sendChannel o).serReq = s.serReq := rfl
@[simp] theorem State.sendChannel_serPhase (o : ChanOut) : (s.sendChannel o).serPhase = s.serPhase := rfl
@[simp] theorem State.sendChannel_waiting (o : ChanOut) : (s.sendChannel o).waiting = s.waiting := rfl
@[simp] theorem State.sendChannel_turns (o : ChanOut) : (s.sendChannel o).turns = s.turns := rfl
@[simp] theorem State.sendChannel_evOut (o : ChanOut) : (s.sendChannel o).evOut = s.evOut := rfl
@[simp] theorem State.sendChannel_results (o : ChanOut) : (s.sendChannel o).results = s.results := rfl
@[simp] theorem State.sendChannel_chanOut (o : ChanOut) : (s.sendChannel o).chanOut = s.chanOut ++ [o] := rfl
@[simp] theorem State.sendChannel_owed (o : ChanOut) : (s.sendChannel o).owed = s.owed := rfl
@[simp] theorem State.sendChannel_refusedMark (o : ChanOut) : (s.sendChannel o).refusedMark = s.refusedMark := rfl
@[simp] theorem State.sendChannel_freeCount (o : ChanOut) : (s.sendChannel o).freeCount = s.freeCount := rfl

@[simp] theorem State.setSlot_par (i : Slot) (x y : Coord) : (s.setSlot i x y).par = s.par := rfl
@[simp] theorem State.setSlot_fltUnconfigured (i : Slot) (x y : Coord) : (s.setSlot i x y).fltUnconfigured = s.fltUnconfigured := rfl
@[simp] theorem State.setSlot_fltUnsupported (i : Slot) (x y : Coord) : (s.setSlot i x y).fltUnsupported = s.fltUnsupported := rfl
@[simp] theorem State.setSlot_cfgValid (i : Slot) (x y : Coord) : (s.setSlot i x y).cfgValid = s.cfgValid := rfl
@[simp] theorem State.setSlot_cfgFw (i : Slot) (x y : Coord) : (s.setSlot i x y).cfgFw = s.cfgFw := rfl
@[simp] theorem State.setSlot_cfgS1 (i : Slot) (x y : Coord) : (s.setSlot i x y).cfgS1 = s.cfgS1 := rfl
@[simp] theorem State.setSlot_cfgTp (i : Slot) (x y : Coord) : (s.setSlot i x y).cfgTp = s.cfgTp := rfl
@[simp] theorem State.setSlot_cfgYmax (i : Slot) (x y : Coord) : (s.setSlot i x y).cfgYmax = s.cfgYmax := rfl
@[simp] theorem State.setSlot_slotX (i : Slot) (x y : Coord) : (s.setSlot i x y).slotX = s.slotX.set i.val x := rfl
@[simp] theorem State.setSlot_slotY (i : Slot) (x y : Coord) : (s.setSlot i x y).slotY = s.slotY.set i.val y := rfl
@[simp] theorem State.setSlot_live (i : Slot) (x y : Coord) : (s.setSlot i x y).live = s.live := rfl
@[simp] theorem State.setSlot_track (i : Slot) (x y : Coord) : (s.setSlot i x y).track = s.track := rfl
@[simp] theorem State.setSlot_frBuf (i : Slot) (x y : Coord) : (s.setSlot i x y).frBuf = s.frBuf := rfl
@[simp] theorem State.setSlot_frCount (i : Slot) (x y : Coord) : (s.setSlot i x y).frCount = s.frCount := rfl
@[simp] theorem State.setSlot_serBusy (i : Slot) (x y : Coord) : (s.setSlot i x y).serBusy = s.serBusy := rfl
@[simp] theorem State.setSlot_serPlan (i : Slot) (x y : Coord) : (s.setSlot i x y).serPlan = s.serPlan := rfl
@[simp] theorem State.setSlot_serIdx (i : Slot) (x y : Coord) : (s.setSlot i x y).serIdx = s.serIdx := rfl
@[simp] theorem State.setSlot_serTry (i : Slot) (x y : Coord) : (s.setSlot i x y).serTry = s.serTry := rfl
@[simp] theorem State.setSlot_serRep (i : Slot) (x y : Coord) : (s.setSlot i x y).serRep = s.serRep := rfl
@[simp] theorem State.setSlot_serReq (i : Slot) (x y : Coord) : (s.setSlot i x y).serReq = s.serReq := rfl
@[simp] theorem State.setSlot_serPhase (i : Slot) (x y : Coord) : (s.setSlot i x y).serPhase = s.serPhase := rfl
@[simp] theorem State.setSlot_waiting (i : Slot) (x y : Coord) : (s.setSlot i x y).waiting = s.waiting := rfl
@[simp] theorem State.setSlot_turns (i : Slot) (x y : Coord) : (s.setSlot i x y).turns = s.turns := rfl
@[simp] theorem State.setSlot_evOut (i : Slot) (x y : Coord) : (s.setSlot i x y).evOut = s.evOut := rfl
@[simp] theorem State.setSlot_results (i : Slot) (x y : Coord) : (s.setSlot i x y).results = s.results := rfl
@[simp] theorem State.setSlot_chanOut (i : Slot) (x y : Coord) : (s.setSlot i x y).chanOut = s.chanOut := rfl
@[simp] theorem State.setSlot_owed (i : Slot) (x y : Coord) : (s.setSlot i x y).owed = s.owed := rfl
@[simp] theorem State.setSlot_refusedMark (i : Slot) (x y : Coord) : (s.setSlot i x y).refusedMark = s.refusedMark := rfl
@[simp] theorem State.setSlot_freeCount (i : Slot) (x y : Coord) : (s.setSlot i x y).freeCount = s.freeCount := rfl

@[simp] theorem State.putByte_par (b : Byte) : (s.putByte b).par = s.par := rfl
@[simp] theorem State.putByte_fltUnconfigured (b : Byte) : (s.putByte b).fltUnconfigured = s.fltUnconfigured := rfl
@[simp] theorem State.putByte_fltUnsupported (b : Byte) : (s.putByte b).fltUnsupported = s.fltUnsupported := rfl
@[simp] theorem State.putByte_cfgValid (b : Byte) : (s.putByte b).cfgValid = s.cfgValid := rfl
@[simp] theorem State.putByte_cfgFw (b : Byte) : (s.putByte b).cfgFw = s.cfgFw := rfl
@[simp] theorem State.putByte_cfgS1 (b : Byte) : (s.putByte b).cfgS1 = s.cfgS1 := rfl
@[simp] theorem State.putByte_cfgTp (b : Byte) : (s.putByte b).cfgTp = s.cfgTp := rfl
@[simp] theorem State.putByte_cfgYmax (b : Byte) : (s.putByte b).cfgYmax = s.cfgYmax := rfl
@[simp] theorem State.putByte_slotX (b : Byte) : (s.putByte b).slotX = s.slotX := rfl
@[simp] theorem State.putByte_slotY (b : Byte) : (s.putByte b).slotY = s.slotY := rfl
@[simp] theorem State.putByte_live (b : Byte) : (s.putByte b).live = s.live := rfl
@[simp] theorem State.putByte_track (b : Byte) : (s.putByte b).track = s.track := rfl
@[simp] theorem State.putByte_frBuf (b : Byte) : (s.putByte b).frBuf = s.frBuf.set s.frCount.val b := rfl
@[simp] theorem State.putByte_frCount (b : Byte) : (s.putByte b).frCount = s.frCount := rfl
@[simp] theorem State.putByte_serBusy (b : Byte) : (s.putByte b).serBusy = s.serBusy := rfl
@[simp] theorem State.putByte_serPlan (b : Byte) : (s.putByte b).serPlan = s.serPlan := rfl
@[simp] theorem State.putByte_serIdx (b : Byte) : (s.putByte b).serIdx = s.serIdx := rfl
@[simp] theorem State.putByte_serTry (b : Byte) : (s.putByte b).serTry = s.serTry := rfl
@[simp] theorem State.putByte_serRep (b : Byte) : (s.putByte b).serRep = s.serRep := rfl
@[simp] theorem State.putByte_serReq (b : Byte) : (s.putByte b).serReq = s.serReq := rfl
@[simp] theorem State.putByte_serPhase (b : Byte) : (s.putByte b).serPhase = s.serPhase := rfl
@[simp] theorem State.putByte_waiting (b : Byte) : (s.putByte b).waiting = s.waiting := rfl
@[simp] theorem State.putByte_turns (b : Byte) : (s.putByte b).turns = s.turns := rfl
@[simp] theorem State.putByte_evOut (b : Byte) : (s.putByte b).evOut = s.evOut := rfl
@[simp] theorem State.putByte_results (b : Byte) : (s.putByte b).results = s.results := rfl
@[simp] theorem State.putByte_chanOut (b : Byte) : (s.putByte b).chanOut = s.chanOut := rfl
@[simp] theorem State.putByte_owed (b : Byte) : (s.putByte b).owed = s.owed := rfl
@[simp] theorem State.putByte_refusedMark (b : Byte) : (s.putByte b).refusedMark = s.refusedMark := rfl
@[simp] theorem State.putByte_freeCount (b : Byte) : (s.putByte b).freeCount = s.freeCount := rfl

@[simp] theorem State.advanceFrame_par : s.advanceFrame.par = s.par := rfl
@[simp] theorem State.advanceFrame_fltUnconfigured : s.advanceFrame.fltUnconfigured = s.fltUnconfigured := rfl
@[simp] theorem State.advanceFrame_fltUnsupported : s.advanceFrame.fltUnsupported = s.fltUnsupported := rfl
@[simp] theorem State.advanceFrame_cfgValid : s.advanceFrame.cfgValid = s.cfgValid := rfl
@[simp] theorem State.advanceFrame_cfgFw : s.advanceFrame.cfgFw = s.cfgFw := rfl
@[simp] theorem State.advanceFrame_cfgS1 : s.advanceFrame.cfgS1 = s.cfgS1 := rfl
@[simp] theorem State.advanceFrame_cfgTp : s.advanceFrame.cfgTp = s.cfgTp := rfl
@[simp] theorem State.advanceFrame_cfgYmax : s.advanceFrame.cfgYmax = s.cfgYmax := rfl
@[simp] theorem State.advanceFrame_slotX : s.advanceFrame.slotX = s.slotX := rfl
@[simp] theorem State.advanceFrame_slotY : s.advanceFrame.slotY = s.slotY := rfl
@[simp] theorem State.advanceFrame_live : s.advanceFrame.live = s.live := rfl
@[simp] theorem State.advanceFrame_track : s.advanceFrame.track = s.track := rfl
@[simp] theorem State.advanceFrame_frBuf : s.advanceFrame.frBuf = s.frBuf := rfl
@[simp] theorem State.advanceFrame_frCount : s.advanceFrame.frCount = s.frCount + 1 := rfl
@[simp] theorem State.advanceFrame_serBusy : s.advanceFrame.serBusy = s.serBusy := rfl
@[simp] theorem State.advanceFrame_serPlan : s.advanceFrame.serPlan = s.serPlan := rfl
@[simp] theorem State.advanceFrame_serIdx : s.advanceFrame.serIdx = s.serIdx := rfl
@[simp] theorem State.advanceFrame_serTry : s.advanceFrame.serTry = s.serTry := rfl
@[simp] theorem State.advanceFrame_serRep : s.advanceFrame.serRep = s.serRep := rfl
@[simp] theorem State.advanceFrame_serReq : s.advanceFrame.serReq = s.serReq := rfl
@[simp] theorem State.advanceFrame_serPhase : s.advanceFrame.serPhase = s.serPhase := rfl
@[simp] theorem State.advanceFrame_waiting : s.advanceFrame.waiting = s.waiting := rfl
@[simp] theorem State.advanceFrame_turns : s.advanceFrame.turns = s.turns := rfl
@[simp] theorem State.advanceFrame_evOut : s.advanceFrame.evOut = s.evOut := rfl
@[simp] theorem State.advanceFrame_results : s.advanceFrame.results = s.results := rfl
@[simp] theorem State.advanceFrame_chanOut : s.advanceFrame.chanOut = s.chanOut := rfl
@[simp] theorem State.advanceFrame_owed : s.advanceFrame.owed = s.owed := rfl
@[simp] theorem State.advanceFrame_refusedMark : s.advanceFrame.refusedMark = s.refusedMark := rfl
@[simp] theorem State.advanceFrame_freeCount : s.advanceFrame.freeCount = s.freeCount := rfl

@[simp] theorem State.faultUnconfigured_par : s.faultUnconfigured.par = s.par := rfl
@[simp] theorem State.faultUnconfigured_fltUnconfigured : s.faultUnconfigured.fltUnconfigured = true := rfl
@[simp] theorem State.faultUnconfigured_fltUnsupported : s.faultUnconfigured.fltUnsupported = s.fltUnsupported := rfl
@[simp] theorem State.faultUnconfigured_cfgValid : s.faultUnconfigured.cfgValid = s.cfgValid := rfl
@[simp] theorem State.faultUnconfigured_cfgFw : s.faultUnconfigured.cfgFw = s.cfgFw := rfl
@[simp] theorem State.faultUnconfigured_cfgS1 : s.faultUnconfigured.cfgS1 = s.cfgS1 := rfl
@[simp] theorem State.faultUnconfigured_cfgTp : s.faultUnconfigured.cfgTp = s.cfgTp := rfl
@[simp] theorem State.faultUnconfigured_cfgYmax : s.faultUnconfigured.cfgYmax = s.cfgYmax := rfl
@[simp] theorem State.faultUnconfigured_slotX : s.faultUnconfigured.slotX = s.slotX := rfl
@[simp] theorem State.faultUnconfigured_slotY : s.faultUnconfigured.slotY = s.slotY := rfl
@[simp] theorem State.faultUnconfigured_live : s.faultUnconfigured.live = s.live := rfl
@[simp] theorem State.faultUnconfigured_track : s.faultUnconfigured.track = s.track := rfl
@[simp] theorem State.faultUnconfigured_frBuf : s.faultUnconfigured.frBuf = s.frBuf := rfl
@[simp] theorem State.faultUnconfigured_frCount : s.faultUnconfigured.frCount = s.frCount := rfl
@[simp] theorem State.faultUnconfigured_serBusy : s.faultUnconfigured.serBusy = s.serBusy := rfl
@[simp] theorem State.faultUnconfigured_serPlan : s.faultUnconfigured.serPlan = s.serPlan := rfl
@[simp] theorem State.faultUnconfigured_serIdx : s.faultUnconfigured.serIdx = s.serIdx := rfl
@[simp] theorem State.faultUnconfigured_serTry : s.faultUnconfigured.serTry = s.serTry := rfl
@[simp] theorem State.faultUnconfigured_serRep : s.faultUnconfigured.serRep = s.serRep := rfl
@[simp] theorem State.faultUnconfigured_serReq : s.faultUnconfigured.serReq = s.serReq := rfl
@[simp] theorem State.faultUnconfigured_serPhase : s.faultUnconfigured.serPhase = s.serPhase := rfl
@[simp] theorem State.faultUnconfigured_waiting : s.faultUnconfigured.waiting = s.waiting := rfl
@[simp] theorem State.faultUnconfigured_turns : s.faultUnconfigured.turns = s.turns := rfl
@[simp] theorem State.faultUnconfigured_evOut : s.faultUnconfigured.evOut = s.evOut := rfl
@[simp] theorem State.faultUnconfigured_results : s.faultUnconfigured.results = s.results := rfl
@[simp] theorem State.faultUnconfigured_chanOut : s.faultUnconfigured.chanOut = s.chanOut := rfl
@[simp] theorem State.faultUnconfigured_owed : s.faultUnconfigured.owed = s.owed := rfl
@[simp] theorem State.faultUnconfigured_refusedMark : s.faultUnconfigured.refusedMark = s.refusedMark := rfl
@[simp] theorem State.faultUnconfigured_freeCount : s.faultUnconfigured.freeCount = s.freeCount := rfl

@[simp] theorem State.faultUnsupported_par : s.faultUnsupported.par = s.par := rfl
@[simp] theorem State.faultUnsupported_fltUnconfigured : s.faultUnsupported.fltUnconfigured = s.fltUnconfigured := rfl
@[simp] theorem State.faultUnsupported_fltUnsupported : s.faultUnsupported.fltUnsupported = true := rfl
@[simp] theorem State.faultUnsupported_cfgValid : s.faultUnsupported.cfgValid = s.cfgValid := rfl
@[simp] theorem State.faultUnsupported_cfgFw : s.faultUnsupported.cfgFw = s.cfgFw := rfl
@[simp] theorem State.faultUnsupported_cfgS1 : s.faultUnsupported.cfgS1 = s.cfgS1 := rfl
@[simp] theorem State.faultUnsupported_cfgTp : s.faultUnsupported.cfgTp = s.cfgTp := rfl
@[simp] theorem State.faultUnsupported_cfgYmax : s.faultUnsupported.cfgYmax = s.cfgYmax := rfl
@[simp] theorem State.faultUnsupported_slotX : s.faultUnsupported.slotX = s.slotX := rfl
@[simp] theorem State.faultUnsupported_slotY : s.faultUnsupported.slotY = s.slotY := rfl
@[simp] theorem State.faultUnsupported_live : s.faultUnsupported.live = s.live := rfl
@[simp] theorem State.faultUnsupported_track : s.faultUnsupported.track = s.track := rfl
@[simp] theorem State.faultUnsupported_frBuf : s.faultUnsupported.frBuf = s.frBuf := rfl
@[simp] theorem State.faultUnsupported_frCount : s.faultUnsupported.frCount = s.frCount := rfl
@[simp] theorem State.faultUnsupported_serBusy : s.faultUnsupported.serBusy = s.serBusy := rfl
@[simp] theorem State.faultUnsupported_serPlan : s.faultUnsupported.serPlan = s.serPlan := rfl
@[simp] theorem State.faultUnsupported_serIdx : s.faultUnsupported.serIdx = s.serIdx := rfl
@[simp] theorem State.faultUnsupported_serTry : s.faultUnsupported.serTry = s.serTry := rfl
@[simp] theorem State.faultUnsupported_serRep : s.faultUnsupported.serRep = s.serRep := rfl
@[simp] theorem State.faultUnsupported_serReq : s.faultUnsupported.serReq = s.serReq := rfl
@[simp] theorem State.faultUnsupported_serPhase : s.faultUnsupported.serPhase = s.serPhase := rfl
@[simp] theorem State.faultUnsupported_waiting : s.faultUnsupported.waiting = s.waiting := rfl
@[simp] theorem State.faultUnsupported_turns : s.faultUnsupported.turns = s.turns := rfl
@[simp] theorem State.faultUnsupported_evOut : s.faultUnsupported.evOut = s.evOut := rfl
@[simp] theorem State.faultUnsupported_results : s.faultUnsupported.results = s.results := rfl
@[simp] theorem State.faultUnsupported_chanOut : s.faultUnsupported.chanOut = s.chanOut := rfl
@[simp] theorem State.faultUnsupported_owed : s.faultUnsupported.owed = s.owed := rfl
@[simp] theorem State.faultUnsupported_refusedMark : s.faultUnsupported.refusedMark = s.refusedMark := rfl
@[simp] theorem State.faultUnsupported_freeCount : s.faultUnsupported.freeCount = s.freeCount := rfl

@[simp] theorem State.markSlot_par (i : Slot) : (s.markSlot i).par = s.par := rfl
@[simp] theorem State.markSlot_fltUnconfigured (i : Slot) : (s.markSlot i).fltUnconfigured = s.fltUnconfigured := rfl
@[simp] theorem State.markSlot_fltUnsupported (i : Slot) : (s.markSlot i).fltUnsupported = s.fltUnsupported := rfl
@[simp] theorem State.markSlot_cfgValid (i : Slot) : (s.markSlot i).cfgValid = s.cfgValid := rfl
@[simp] theorem State.markSlot_cfgFw (i : Slot) : (s.markSlot i).cfgFw = s.cfgFw := rfl
@[simp] theorem State.markSlot_cfgS1 (i : Slot) : (s.markSlot i).cfgS1 = s.cfgS1 := rfl
@[simp] theorem State.markSlot_cfgTp (i : Slot) : (s.markSlot i).cfgTp = s.cfgTp := rfl
@[simp] theorem State.markSlot_cfgYmax (i : Slot) : (s.markSlot i).cfgYmax = s.cfgYmax := rfl
@[simp] theorem State.markSlot_slotX (i : Slot) : (s.markSlot i).slotX = s.slotX := rfl
@[simp] theorem State.markSlot_slotY (i : Slot) : (s.markSlot i).slotY = s.slotY := rfl
@[simp] theorem State.markSlot_live (i : Slot) : (s.markSlot i).live = s.live ||| slotBit i := rfl
@[simp] theorem State.markSlot_track (i : Slot) : (s.markSlot i).track = s.track ||| slotBit i := rfl
@[simp] theorem State.markSlot_frBuf (i : Slot) : (s.markSlot i).frBuf = s.frBuf := rfl
@[simp] theorem State.markSlot_frCount (i : Slot) : (s.markSlot i).frCount = s.frCount := rfl
@[simp] theorem State.markSlot_serBusy (i : Slot) : (s.markSlot i).serBusy = s.serBusy := rfl
@[simp] theorem State.markSlot_serPlan (i : Slot) : (s.markSlot i).serPlan = s.serPlan := rfl
@[simp] theorem State.markSlot_serIdx (i : Slot) : (s.markSlot i).serIdx = s.serIdx := rfl
@[simp] theorem State.markSlot_serTry (i : Slot) : (s.markSlot i).serTry = s.serTry := rfl
@[simp] theorem State.markSlot_serRep (i : Slot) : (s.markSlot i).serRep = s.serRep := rfl
@[simp] theorem State.markSlot_serReq (i : Slot) : (s.markSlot i).serReq = s.serReq := rfl
@[simp] theorem State.markSlot_serPhase (i : Slot) : (s.markSlot i).serPhase = s.serPhase := rfl
@[simp] theorem State.markSlot_waiting (i : Slot) : (s.markSlot i).waiting = s.waiting := rfl
@[simp] theorem State.markSlot_turns (i : Slot) : (s.markSlot i).turns = s.turns := rfl
@[simp] theorem State.markSlot_evOut (i : Slot) : (s.markSlot i).evOut = s.evOut := rfl
@[simp] theorem State.markSlot_results (i : Slot) : (s.markSlot i).results = s.results := rfl
@[simp] theorem State.markSlot_chanOut (i : Slot) : (s.markSlot i).chanOut = s.chanOut := rfl
@[simp] theorem State.markSlot_owed (i : Slot) : (s.markSlot i).owed = s.owed := rfl
@[simp] theorem State.markSlot_refusedMark (i : Slot) : (s.markSlot i).refusedMark = s.refusedMark := rfl
@[simp] theorem State.markSlot_freeCount (i : Slot) : (s.markSlot i).freeCount = s.freeCount := rfl

@[simp] theorem State.statusMasks_par (m : Mask) : (s.statusMasks m).par = s.par := rfl
@[simp] theorem State.statusMasks_fltUnconfigured (m : Mask) : (s.statusMasks m).fltUnconfigured = s.fltUnconfigured := rfl
@[simp] theorem State.statusMasks_fltUnsupported (m : Mask) : (s.statusMasks m).fltUnsupported = s.fltUnsupported := rfl
@[simp] theorem State.statusMasks_cfgValid (m : Mask) : (s.statusMasks m).cfgValid = s.cfgValid := rfl
@[simp] theorem State.statusMasks_cfgFw (m : Mask) : (s.statusMasks m).cfgFw = s.cfgFw := rfl
@[simp] theorem State.statusMasks_cfgS1 (m : Mask) : (s.statusMasks m).cfgS1 = s.cfgS1 := rfl
@[simp] theorem State.statusMasks_cfgTp (m : Mask) : (s.statusMasks m).cfgTp = s.cfgTp := rfl
@[simp] theorem State.statusMasks_cfgYmax (m : Mask) : (s.statusMasks m).cfgYmax = s.cfgYmax := rfl
@[simp] theorem State.statusMasks_slotX (m : Mask) : (s.statusMasks m).slotX = s.slotX := rfl
@[simp] theorem State.statusMasks_slotY (m : Mask) : (s.statusMasks m).slotY = s.slotY := rfl
@[simp] theorem State.statusMasks_live (m : Mask) : (s.statusMasks m).live = m := rfl
@[simp] theorem State.statusMasks_track (m : Mask) : (s.statusMasks m).track = s.track &&& m := rfl
@[simp] theorem State.statusMasks_frBuf (m : Mask) : (s.statusMasks m).frBuf = s.frBuf := rfl
@[simp] theorem State.statusMasks_frCount (m : Mask) : (s.statusMasks m).frCount = s.frCount := rfl
@[simp] theorem State.statusMasks_serBusy (m : Mask) : (s.statusMasks m).serBusy = s.serBusy := rfl
@[simp] theorem State.statusMasks_serPlan (m : Mask) : (s.statusMasks m).serPlan = s.serPlan := rfl
@[simp] theorem State.statusMasks_serIdx (m : Mask) : (s.statusMasks m).serIdx = s.serIdx := rfl
@[simp] theorem State.statusMasks_serTry (m : Mask) : (s.statusMasks m).serTry = s.serTry := rfl
@[simp] theorem State.statusMasks_serRep (m : Mask) : (s.statusMasks m).serRep = s.serRep := rfl
@[simp] theorem State.statusMasks_serReq (m : Mask) : (s.statusMasks m).serReq = s.serReq := rfl
@[simp] theorem State.statusMasks_serPhase (m : Mask) : (s.statusMasks m).serPhase = s.serPhase := rfl
@[simp] theorem State.statusMasks_waiting (m : Mask) : (s.statusMasks m).waiting = s.waiting := rfl
@[simp] theorem State.statusMasks_turns (m : Mask) : (s.statusMasks m).turns = s.turns := rfl
@[simp] theorem State.statusMasks_evOut (m : Mask) : (s.statusMasks m).evOut = s.evOut := rfl
@[simp] theorem State.statusMasks_results (m : Mask) : (s.statusMasks m).results = s.results := rfl
@[simp] theorem State.statusMasks_chanOut (m : Mask) : (s.statusMasks m).chanOut = s.chanOut := rfl
@[simp] theorem State.statusMasks_owed (m : Mask) : (s.statusMasks m).owed = s.owed := rfl
@[simp] theorem State.statusMasks_refusedMark (m : Mask) : (s.statusMasks m).refusedMark = s.refusedMark := rfl
@[simp] theorem State.statusMasks_freeCount (m : Mask) : (s.statusMasks m).freeCount = s.freeCount := rfl

@[simp] theorem State.clearMasks_par : s.clearMasks.par = s.par := rfl
@[simp] theorem State.clearMasks_fltUnconfigured : s.clearMasks.fltUnconfigured = s.fltUnconfigured := rfl
@[simp] theorem State.clearMasks_fltUnsupported : s.clearMasks.fltUnsupported = s.fltUnsupported := rfl
@[simp] theorem State.clearMasks_cfgValid : s.clearMasks.cfgValid = s.cfgValid := rfl
@[simp] theorem State.clearMasks_cfgFw : s.clearMasks.cfgFw = s.cfgFw := rfl
@[simp] theorem State.clearMasks_cfgS1 : s.clearMasks.cfgS1 = s.cfgS1 := rfl
@[simp] theorem State.clearMasks_cfgTp : s.clearMasks.cfgTp = s.cfgTp := rfl
@[simp] theorem State.clearMasks_cfgYmax : s.clearMasks.cfgYmax = s.cfgYmax := rfl
@[simp] theorem State.clearMasks_slotX : s.clearMasks.slotX = s.slotX := rfl
@[simp] theorem State.clearMasks_slotY : s.clearMasks.slotY = s.slotY := rfl
@[simp] theorem State.clearMasks_live : s.clearMasks.live = 0 := rfl
@[simp] theorem State.clearMasks_track : s.clearMasks.track = 0 := rfl
@[simp] theorem State.clearMasks_frBuf : s.clearMasks.frBuf = s.frBuf := rfl
@[simp] theorem State.clearMasks_frCount : s.clearMasks.frCount = s.frCount := rfl
@[simp] theorem State.clearMasks_serBusy : s.clearMasks.serBusy = s.serBusy := rfl
@[simp] theorem State.clearMasks_serPlan : s.clearMasks.serPlan = s.serPlan := rfl
@[simp] theorem State.clearMasks_serIdx : s.clearMasks.serIdx = s.serIdx := rfl
@[simp] theorem State.clearMasks_serTry : s.clearMasks.serTry = s.serTry := rfl
@[simp] theorem State.clearMasks_serRep : s.clearMasks.serRep = s.serRep := rfl
@[simp] theorem State.clearMasks_serReq : s.clearMasks.serReq = s.serReq := rfl
@[simp] theorem State.clearMasks_serPhase : s.clearMasks.serPhase = s.serPhase := rfl
@[simp] theorem State.clearMasks_waiting : s.clearMasks.waiting = s.waiting := rfl
@[simp] theorem State.clearMasks_turns : s.clearMasks.turns = s.turns := rfl
@[simp] theorem State.clearMasks_evOut : s.clearMasks.evOut = s.evOut := rfl
@[simp] theorem State.clearMasks_results : s.clearMasks.results = s.results := rfl
@[simp] theorem State.clearMasks_chanOut : s.clearMasks.chanOut = s.chanOut := rfl
@[simp] theorem State.clearMasks_owed : s.clearMasks.owed = s.owed := rfl
@[simp] theorem State.clearMasks_refusedMark : s.clearMasks.refusedMark = s.refusedMark := rfl
@[simp] theorem State.clearMasks_freeCount : s.clearMasks.freeCount = s.freeCount := rfl

@[simp] theorem State.startRequest_par (r : Req) (plan : List SerStep) : (s.startRequest r plan).par = s.par := rfl
@[simp] theorem State.startRequest_fltUnconfigured (r : Req) (plan : List SerStep) : (s.startRequest r plan).fltUnconfigured = s.fltUnconfigured := rfl
@[simp] theorem State.startRequest_fltUnsupported (r : Req) (plan : List SerStep) : (s.startRequest r plan).fltUnsupported = s.fltUnsupported := rfl
@[simp] theorem State.startRequest_cfgValid (r : Req) (plan : List SerStep) : (s.startRequest r plan).cfgValid = s.cfgValid := rfl
@[simp] theorem State.startRequest_cfgFw (r : Req) (plan : List SerStep) : (s.startRequest r plan).cfgFw = s.cfgFw := rfl
@[simp] theorem State.startRequest_cfgS1 (r : Req) (plan : List SerStep) : (s.startRequest r plan).cfgS1 = s.cfgS1 := rfl
@[simp] theorem State.startRequest_cfgTp (r : Req) (plan : List SerStep) : (s.startRequest r plan).cfgTp = s.cfgTp := rfl
@[simp] theorem State.startRequest_cfgYmax (r : Req) (plan : List SerStep) : (s.startRequest r plan).cfgYmax = s.cfgYmax := rfl
@[simp] theorem State.startRequest_slotX (r : Req) (plan : List SerStep) : (s.startRequest r plan).slotX = s.slotX := rfl
@[simp] theorem State.startRequest_slotY (r : Req) (plan : List SerStep) : (s.startRequest r plan).slotY = s.slotY := rfl
@[simp] theorem State.startRequest_live (r : Req) (plan : List SerStep) : (s.startRequest r plan).live = s.live := rfl
@[simp] theorem State.startRequest_track (r : Req) (plan : List SerStep) : (s.startRequest r plan).track = s.track := rfl
@[simp] theorem State.startRequest_frBuf (r : Req) (plan : List SerStep) : (s.startRequest r plan).frBuf = s.frBuf := rfl
@[simp] theorem State.startRequest_frCount (r : Req) (plan : List SerStep) : (s.startRequest r plan).frCount = s.frCount := rfl
@[simp] theorem State.startRequest_serBusy (r : Req) (plan : List SerStep) : (s.startRequest r plan).serBusy = true := rfl
@[simp] theorem State.startRequest_serPlan (r : Req) (plan : List SerStep) : (s.startRequest r plan).serPlan = plan := rfl
@[simp] theorem State.startRequest_serIdx (r : Req) (plan : List SerStep) : (s.startRequest r plan).serIdx = 0 := rfl
@[simp] theorem State.startRequest_serTry (r : Req) (plan : List SerStep) : (s.startRequest r plan).serTry = 1 := rfl
@[simp] theorem State.startRequest_serRep (r : Req) (plan : List SerStep) : (s.startRequest r plan).serRep = [] := rfl
@[simp] theorem State.startRequest_serReq (r : Req) (plan : List SerStep) : (s.startRequest r plan).serReq = r := rfl
@[simp] theorem State.startRequest_serPhase (r : Req) (plan : List SerStep) : (s.startRequest r plan).serPhase = .issue := rfl
@[simp] theorem State.startRequest_waiting (r : Req) (plan : List SerStep) : (s.startRequest r plan).waiting = s.waiting := rfl
@[simp] theorem State.startRequest_turns (r : Req) (plan : List SerStep) : (s.startRequest r plan).turns = s.turns := rfl
@[simp] theorem State.startRequest_evOut (r : Req) (plan : List SerStep) : (s.startRequest r plan).evOut = s.evOut := rfl
@[simp] theorem State.startRequest_results (r : Req) (plan : List SerStep) : (s.startRequest r plan).results = s.results := rfl
@[simp] theorem State.startRequest_chanOut (r : Req) (plan : List SerStep) : (s.startRequest r plan).chanOut = s.chanOut := rfl
@[simp] theorem State.startRequest_owed (r : Req) (plan : List SerStep) : (s.startRequest r plan).owed = s.owed := rfl
@[simp] theorem State.startRequest_refusedMark (r : Req) (plan : List SerStep) : (s.startRequest r plan).refusedMark = s.refusedMark := rfl
@[simp] theorem State.startRequest_freeCount (r : Req) (plan : List SerStep) : (s.startRequest r plan).freeCount = s.freeCount := rfl

@[simp] theorem State.endRequest_par (r : Result) : (s.endRequest r).par = s.par := rfl
@[simp] theorem State.endRequest_fltUnconfigured (r : Result) : (s.endRequest r).fltUnconfigured = s.fltUnconfigured := rfl
@[simp] theorem State.endRequest_fltUnsupported (r : Result) : (s.endRequest r).fltUnsupported = s.fltUnsupported := rfl
@[simp] theorem State.endRequest_cfgValid (r : Result) : (s.endRequest r).cfgValid = s.cfgValid := rfl
@[simp] theorem State.endRequest_cfgFw (r : Result) : (s.endRequest r).cfgFw = s.cfgFw := rfl
@[simp] theorem State.endRequest_cfgS1 (r : Result) : (s.endRequest r).cfgS1 = s.cfgS1 := rfl
@[simp] theorem State.endRequest_cfgTp (r : Result) : (s.endRequest r).cfgTp = s.cfgTp := rfl
@[simp] theorem State.endRequest_cfgYmax (r : Result) : (s.endRequest r).cfgYmax = s.cfgYmax := rfl
@[simp] theorem State.endRequest_slotX (r : Result) : (s.endRequest r).slotX = s.slotX := rfl
@[simp] theorem State.endRequest_slotY (r : Result) : (s.endRequest r).slotY = s.slotY := rfl
@[simp] theorem State.endRequest_live (r : Result) : (s.endRequest r).live = s.live := rfl
@[simp] theorem State.endRequest_track (r : Result) : (s.endRequest r).track = s.track := rfl
@[simp] theorem State.endRequest_frBuf (r : Result) : (s.endRequest r).frBuf = s.frBuf := rfl
@[simp] theorem State.endRequest_frCount (r : Result) : (s.endRequest r).frCount = s.frCount := rfl
@[simp] theorem State.endRequest_serBusy (r : Result) : (s.endRequest r).serBusy = false := rfl
@[simp] theorem State.endRequest_serPlan (r : Result) : (s.endRequest r).serPlan = s.serPlan := rfl
@[simp] theorem State.endRequest_serIdx (r : Result) : (s.endRequest r).serIdx = s.serIdx := rfl
@[simp] theorem State.endRequest_serTry (r : Result) : (s.endRequest r).serTry = s.serTry := rfl
@[simp] theorem State.endRequest_serRep (r : Result) : (s.endRequest r).serRep = s.serRep := rfl
@[simp] theorem State.endRequest_serReq (r : Result) : (s.endRequest r).serReq = s.serReq := rfl
@[simp] theorem State.endRequest_serPhase (r : Result) : (s.endRequest r).serPhase = s.serPhase := rfl
@[simp] theorem State.endRequest_waiting (r : Result) : (s.endRequest r).waiting = s.waiting := rfl
@[simp] theorem State.endRequest_turns (r : Result) : (s.endRequest r).turns = s.turns := rfl
@[simp] theorem State.endRequest_evOut (r : Result) : (s.endRequest r).evOut = s.evOut := rfl
@[simp] theorem State.endRequest_results (r : Result) : (s.endRequest r).results = s.results ++ [r] := rfl
@[simp] theorem State.endRequest_chanOut (r : Result) : (s.endRequest r).chanOut = s.chanOut := rfl
@[simp] theorem State.endRequest_owed (r : Result) : (s.endRequest r).owed = s.owed := rfl
@[simp] theorem State.endRequest_refusedMark (r : Result) : (s.endRequest r).refusedMark = s.refusedMark := rfl
@[simp] theorem State.endRequest_freeCount (r : Result) : (s.endRequest r).freeCount = s.freeCount := rfl

@[simp] theorem State.freeUnspecified_par : s.freeUnspecified.par = s.par := rfl
@[simp] theorem State.freeUnspecified_fltUnconfigured : s.freeUnspecified.fltUnconfigured = s.fltUnconfigured := rfl
@[simp] theorem State.freeUnspecified_fltUnsupported : s.freeUnspecified.fltUnsupported = s.fltUnsupported := rfl
@[simp] theorem State.freeUnspecified_cfgValid : s.freeUnspecified.cfgValid = s.cfgValid := rfl
@[simp] theorem State.freeUnspecified_live : s.freeUnspecified.live = s.live := rfl
@[simp] theorem State.freeUnspecified_track : s.freeUnspecified.track = s.track := rfl
@[simp] theorem State.freeUnspecified_frCount : s.freeUnspecified.frCount = s.frCount := rfl
@[simp] theorem State.freeUnspecified_serBusy : s.freeUnspecified.serBusy = s.serBusy := rfl
@[simp] theorem State.freeUnspecified_serPhase : s.freeUnspecified.serPhase = s.serPhase := rfl
@[simp] theorem State.freeUnspecified_waiting : s.freeUnspecified.waiting = s.waiting := rfl
@[simp] theorem State.freeUnspecified_turns : s.freeUnspecified.turns = s.turns := rfl
@[simp] theorem State.freeUnspecified_evOut : s.freeUnspecified.evOut = s.evOut := rfl
@[simp] theorem State.freeUnspecified_results : s.freeUnspecified.results = s.results := rfl
@[simp] theorem State.freeUnspecified_chanOut : s.freeUnspecified.chanOut = s.chanOut := rfl
@[simp] theorem State.freeUnspecified_owed : s.freeUnspecified.owed = s.owed := rfl
@[simp] theorem State.freeUnspecified_refusedMark : s.freeUnspecified.refusedMark = s.refusedMark := rfl
@[simp] theorem State.freeUnspecified_freeCount : s.freeUnspecified.freeCount = s.freeCount + 1 := rfl

/-! RESET (70 R300). -/

@[simp] theorem State.abandonRequest_par : s.abandonRequest.par = s.par := rfl
@[simp] theorem State.abandonRequest_fltUnconfigured : s.abandonRequest.fltUnconfigured = s.fltUnconfigured := rfl
@[simp] theorem State.abandonRequest_fltUnsupported : s.abandonRequest.fltUnsupported = s.fltUnsupported := rfl
@[simp] theorem State.abandonRequest_cfgValid : s.abandonRequest.cfgValid = s.cfgValid := rfl
@[simp] theorem State.abandonRequest_cfgFw : s.abandonRequest.cfgFw = s.cfgFw := rfl
@[simp] theorem State.abandonRequest_cfgS1 : s.abandonRequest.cfgS1 = s.cfgS1 := rfl
@[simp] theorem State.abandonRequest_cfgTp : s.abandonRequest.cfgTp = s.cfgTp := rfl
@[simp] theorem State.abandonRequest_cfgYmax : s.abandonRequest.cfgYmax = s.cfgYmax := rfl
@[simp] theorem State.abandonRequest_slotX : s.abandonRequest.slotX = s.slotX := rfl
@[simp] theorem State.abandonRequest_slotY : s.abandonRequest.slotY = s.slotY := rfl
@[simp] theorem State.abandonRequest_live : s.abandonRequest.live = s.live := rfl
@[simp] theorem State.abandonRequest_track : s.abandonRequest.track = s.track := rfl
@[simp] theorem State.abandonRequest_frBuf : s.abandonRequest.frBuf = s.frBuf := rfl
@[simp] theorem State.abandonRequest_frCount : s.abandonRequest.frCount = s.frCount := rfl
@[simp] theorem State.abandonRequest_serBusy : s.abandonRequest.serBusy = false := rfl
@[simp] theorem State.abandonRequest_serPlan : s.abandonRequest.serPlan = s.serPlan := rfl
@[simp] theorem State.abandonRequest_serIdx : s.abandonRequest.serIdx = s.serIdx := rfl
@[simp] theorem State.abandonRequest_serTry : s.abandonRequest.serTry = s.serTry := rfl
@[simp] theorem State.abandonRequest_serRep : s.abandonRequest.serRep = s.serRep := rfl
@[simp] theorem State.abandonRequest_serReq : s.abandonRequest.serReq = s.serReq := rfl
@[simp] theorem State.abandonRequest_serPhase : s.abandonRequest.serPhase = s.serPhase := rfl
@[simp] theorem State.abandonRequest_owed : s.abandonRequest.owed = if s.serBusy ∧ s.serPhase = .answer then s.owed + 1 else s.owed := rfl
@[simp] theorem State.abandonRequest_waiting : s.abandonRequest.waiting = s.waiting := rfl
@[simp] theorem State.abandonRequest_turns : s.abandonRequest.turns = s.turns := rfl
@[simp] theorem State.abandonRequest_evOut : s.abandonRequest.evOut = s.evOut := rfl
@[simp] theorem State.abandonRequest_results : s.abandonRequest.results = s.results := rfl
@[simp] theorem State.abandonRequest_chanOut : s.abandonRequest.chanOut = s.chanOut := rfl
@[simp] theorem State.abandonRequest_refusedMark : s.abandonRequest.refusedMark = s.refusedMark := rfl
@[simp] theorem State.abandonRequest_freeCount : s.abandonRequest.freeCount = s.freeCount := rfl

@[simp] theorem State.afterReset_par : s.afterReset.par = s.par := rfl
@[simp] theorem State.afterReset_fltUnconfigured : s.afterReset.fltUnconfigured = false := rfl
@[simp] theorem State.afterReset_fltUnsupported : s.afterReset.fltUnsupported = false := rfl
@[simp] theorem State.afterReset_cfgValid : s.afterReset.cfgValid = false := rfl
@[simp] theorem State.afterReset_live : s.afterReset.live = 0 := rfl
@[simp] theorem State.afterReset_track : s.afterReset.track = 0 := rfl
@[simp] theorem State.afterReset_frCount : s.afterReset.frCount = 0 := rfl
@[simp] theorem State.afterReset_serBusy : s.afterReset.serBusy = false := rfl
@[simp] theorem State.afterReset_serPhase : s.afterReset.serPhase = s.serPhase := rfl
@[simp] theorem State.afterReset_owed : s.afterReset.owed = if s.serBusy ∧ s.serPhase = .answer then s.owed + 1 else s.owed := rfl
@[simp] theorem State.afterReset_waiting : s.afterReset.waiting = s.waiting := rfl
@[simp] theorem State.afterReset_turns : s.afterReset.turns = s.turns := rfl
@[simp] theorem State.afterReset_evOut : s.afterReset.evOut = s.evOut := rfl
@[simp] theorem State.afterReset_results : s.afterReset.results = s.results := rfl
@[simp] theorem State.afterReset_chanOut : s.afterReset.chanOut = s.chanOut := rfl
@[simp] theorem State.afterReset_refusedMark : s.afterReset.refusedMark = s.refusedMark := rfl
@[simp] theorem State.afterReset_freeCount : s.afterReset.freeCount = s.freeCount + 1 := rfl

end Sys2Proof.Machine
end

