-- ==== Sys2Proof/Laws/Operands.lean ====
section
/-! SUPPORT. What each operand form says in arithmetic: slot ids, masks, coordinates, deltas, addresses. -/

namespace Sys2Proof.Machine

/-! Slot ids (30 R87). -/

theorem slotOfId_sid_some (f : BitVec 3) (i : Slot) : slotOfId (sid f) = some i ↔ f.toNat = i.val + 1 := by
  unfold slotOfId sid
  split
  · simp only [Option.some.injEq, Fin.ext_iff]; omega
  · simp only [reduceCtorEq, false_iff]; omega

theorem slotOfId_sid_none (f : BitVec 3) : slotOfId (sid f) = none ↔ f.toNat = 0 ∨ 6 ≤ f.toNat := by
  unfold slotOfId sid
  split
  · simp only [reduceCtorEq, false_iff]; omega
  · simp only [true_iff]; omega

theorem five_le_sid (f : BitVec 3) : 5 ≤ sid f ↔ 6 ≤ f.toNat := by
  unfold sid; omega

theorem slotField3_toNat (p : Packet) : (slotField3 p).toNat = p[3].toNat / 32 := by
  have h := p[3].isLt
  simp only [slotField3, BitVec.extractLsb'_toNat, Nat.shiftRight_eq_div_pow]
  omega

theorem slotField0_toNat (p : Packet) : (slotField0 p).toNat = p[0].toNat / 32 := by
  have h := p[0].isLt
  simp only [slotField0, BitVec.extractLsb'_toNat, Nat.shiftRight_eq_div_pow]
  omega

/-! Masks (30 R84, 43 R231, R232). -/

theorem statusMask_toNat (p : Packet) : (statusMask p).toNat = p[1].toNat % 32 := by
  simp [statusMask, BitVec.extractLsb'_toNat]

theorem slotBit_getLsbD (i : Slot) (n : Nat) : (slotBit i).getLsbD n = decide (n = i.val) := by
  have hi := i.isLt
  simp only [slotBit, BitVec.getLsbD_shiftLeft, BitVec.getLsbD_one]
  by_cases h : n = i.val
  · subst h; simp [hi]
  · by_cases h1 : n < i.val
    · simp [h, h1]
    · have : n - i.val ≠ 0 := by omega
      simp [h, this]

/-- The slots a Status lifts (43 R231). -/
theorem lifts_eq (live m : Mask) :
    ∃ ids : List Slot, lifts live m = ids.map .fingerLift ∧ ids.Pairwise (· < ·) ∧
      ∀ k : Slot, k ∈ ids ↔ live.getLsbD k.val = true ∧ m.getLsbD k.val = false := by
  refine ⟨_, rfl, (List.pairwise_lt_finRange 5).filter _, fun k => ?_⟩
  simp [List.mem_filter]

theorem lifts_length (live m : Mask) : (lifts live m).length ≤ 5 := by
  simpa [lifts] using List.length_filter_le
    (fun i : Slot => live.getLsbD i.val && !m.getLsbD i.val) (List.finRange 5)

/-! Coordinates (30 R88 to R90). -/

theorem nibble_append_toNat (a b : Byte) :
    ((a.extractLsb' 0 4 ++ b).setWidth 32).toNat = a.toNat % 16 * 256 + b.toNat := by
  have ha := a.isLt
  have hb := b.isLt
  rw [BitVec.toNat_setWidth, BitVec.toNat_append, BitVec.extractLsb'_toNat, ← Nat.shiftLeft_add_eq_or_of_lt hb]
  simp only [Nat.shiftRight_zero, Nat.shiftLeft_eq]
  omega

theorem headX_toNat (p : Packet) : (headX p).toNat = p[1].toNat % 16 * 256 + p[2].toNat := nibble_append_toNat _ _

theorem headYRaw_toNat (p : Packet) : (headYRaw p).toNat = p[4].toNat % 16 * 256 + p[5].toNat := nibble_append_toNat _ _

theorem headY_eq (ymax : BitVec 16) (p : Packet) :
    headY ymax p = BitVec.ofInt 32 ((ymax.toNat : Int) - (p[4].toNat % 16 * 256 + p[5].toNat : Nat)) := by
  rw [← headYRaw_toNat, headY]
  apply BitVec.eq_of_toInt_eq
  rw [BitVec.toInt_sub, BitVec.toInt_ofInt]
  have h1 : (ymax.setWidth 32).toInt = (ymax.toNat : Int) := by
    have := ymax.isLt
    rw [BitVec.toInt_eq_toNat_of_lt (by rw [BitVec.toNat_setWidth]; omega), BitVec.toNat_setWidth]
    omega
  have h2 : (headYRaw p).toInt = ((headYRaw p).toNat : Int) := by
    have := headYRaw_toNat p
    have := p[5].isLt
    exact BitVec.toInt_eq_toNat_of_lt (by omega)
  rw [h1, h2]

theorem delta_eq (b : Byte) : delta b = BitVec.ofInt 32 b.toInt := rfl

theorem motionWeight_eq (w : Coord) (p : Packet) :
    motionWeight w p = if p[0].toNat / 16 % 2 = 1 then w else 1 := by
  have : p[0].getLsbD 4 = decide (p[0].toNat / 16 % 2 = 1) := by
    simp [BitVec.getLsbD, Nat.testBit_eq_decide_div_mod_eq]
  simp only [motionWeight, this, decide_eq_true_eq]

/-! The address check (40 R120). -/

theorem addrOK_iff (a : Byte) :
    addrOK a = true ↔ (0x07 ≤ a.toNat ∧ a.toNat ≤ 0x11) ∨ (0x20 ≤ a.toNat ∧ a.toNat ≤ 0x26) := by
  simp [addrOK, BitVec.le_def]

/-! Transfers (40 R123). -/

theorem transferReply_length {n : Nat} {a : ChanAnswer} {r : List Byte} (h : transferReply n a = some r) :
    r.length = n := by
  cases a with
  | fail => simp [transferReply] at h
  | ok l =>
    simp only [transferReply] at h
    split at h
    · cases h; simp; omega
    · cases h

theorem transferReply_ok (r : List Byte) : transferReply r.length (.ok r) = some r := by
  simp [transferReply]

theorem transferReply_short {n : Nat} {r : List Byte} (h : r.length < n) : transferReply n (.ok r) = none := by
  simp [transferReply]; omega

end Sys2Proof.Machine
end

