-- ==== Sys2Proof/Laws/Multitouch.lean ====
section
/-! SUPPORT. What each decode of the multi-touch decoder can do, said once (43_multitouch.md). -/

namespace Sys2Proof.Machine

/-! Apply (43 R233). -/

theorem applyDelta_frame (w : Coord) (i : Slot) (dx dy : Coord) (s : State) :
    (applyDelta w i dx dy s).1 =
      { s with slotX := (applyDelta w i dx dy s).1.slotX, slotY := (applyDelta w i dx dy s).1.slotY } := by
  unfold applyDelta; split <;> rfl

theorem applyDelta?_frame (w : Coord) (i : Option Slot) (dx dy : Coord) (s : State) :
    (applyDelta? w i dx dy s).1 =
      { s with slotX := (applyDelta? w i dx dy s).1.slotX, slotY := (applyDelta? w i dx dy s).1.slotY } := by
  cases i with
  | none => rfl
  | some i => exact applyDelta_frame w i dx dy s

theorem applyDelta_slot (w : Coord) (i : Slot) (dx dy : Coord) (s : State) (j : Slot) :
    (applyDelta w i dx dy s).1.slotX[j] =
        s.slotX[j] + (if s.track.getLsbD j.val = true then (if j = i then dx else 0) * w else 0) ∧
      (applyDelta w i dx dy s).1.slotY[j] =
        s.slotY[j] - (if s.track.getLsbD j.val = true then (if j = i then dy else 0) * w else 0) := by
  unfold applyDelta
  by_cases hj : j = i
  · subst hj
    split <;> rename_i h <;> simp_all
  · have hv : i.val ≠ j.val := fun h => hj (Fin.ext h.symm)
    split <;> simp [hv]

theorem applyDelta?_slot (w : Coord) (i : Option Slot) (dx dy : Coord) (s : State) (j : Slot) :
    (applyDelta? w i dx dy s).1.slotX[j] =
        s.slotX[j] + (if s.track.getLsbD j.val = true then (if i = some j then dx else 0) * w else 0) ∧
      (applyDelta? w i dx dy s).1.slotY[j] =
        s.slotY[j] - (if s.track.getLsbD j.val = true then (if i = some j then dy else 0) * w else 0) := by
  cases i with
  | none => simp [applyDelta?]
  | some i =>
    have e : (some i = some j) = (j = i) := propext ⟨fun h => (Option.some.inj h).symm, fun h => h ▸ rfl⟩
    simp only [e]
    exact applyDelta_slot w i dx dy s j

theorem applyDelta_events (w : Coord) (i : Slot) (dx dy : Coord) (s : State) :
    (applyDelta w i dx dy s).2 =
      if s.track.getLsbD i.val = true then
        [.fingerUpdate i (applyDelta w i dx dy s).1.slotX[i] (applyDelta w i dx dy s).1.slotY[i]] else [] := by
  unfold applyDelta; split <;> simp_all

theorem applyDelta?_events (w : Coord) (i : Option Slot) (dx dy : Coord) (s : State) :
    (applyDelta? w i dx dy s).2 =
      match i with
      | none => []
      | some j =>
        if s.track.getLsbD j.val = true then
          [.fingerUpdate j (applyDelta? w i dx dy s).1.slotX[j] (applyDelta? w i dx dy s).1.slotY[j]] else [] := by
  cases i with
  | none => rfl
  | some i => exact applyDelta_events w i dx dy s

/-! The Motion decode in one form (43 R233, R236). -/

/-- The packet names no slot to move, or one out of range. -/
theorem decodeMotion_dropped {p : Packet} (s : State)
    (h : p[0].toNat / 32 = 0 ∨ 6 ≤ p[0].toNat / 32 ∨ 6 ≤ p[3].toNat / 32) : decodeMotion p s = (s, [.ignored]) := by
  unfold decodeMotion
  split
  · rfl
  · rename_i i hi
    rw [slotOfId_sid_some, slotField0_toNat] at hi
    have := i.isLt
    rw [if_pos]
    rw [five_le_sid, slotField3_toNat]
    omega

/-- The packet names a primary slot, and a secondary one or none. -/
theorem decodeMotion_valid {p : Packet} (s : State) {i : Slot} (hi : p[0].toNat / 32 = i.val + 1)
    (h3 : p[3].toNat / 32 < 6) :
    decodeMotion p s =
      (let w := motionWeight s.par.weight p
       let first := applyDelta w i (delta p[1]) (delta p[2]) s
       let second := applyDelta? w (slotOfId (sid (slotField3 p))) (delta p[4]) (delta p[5]) first.1
       (second.1, first.2 ++ second.2 ++ [.fingersSync s.live])) := by
  have h0 : slotOfId (sid (slotField0 p)) = some i := by rw [slotOfId_sid_some, slotField0_toNat]; exact hi
  have h5 : ¬ 5 ≤ sid (slotField3 p) := by rw [five_le_sid, slotField3_toNat]; omega
  simp only [decodeMotion, h0, if_neg h5]

/-- Either the packet is dropped or it moves slots: the two cases of a Motion. -/
theorem motion_cases (p : Packet) :
    (p[0].toNat / 32 = 0 ∨ 6 ≤ p[0].toNat / 32 ∨ 6 ≤ p[3].toNat / 32) ∨
      ∃ i : Slot, p[0].toNat / 32 = i.val + 1 ∧ p[3].toNat / 32 < 6 := by
  by_cases h : p[0].toNat / 32 = 0 ∨ 6 ≤ p[0].toNat / 32 ∨ 6 ≤ p[3].toNat / 32
  · exact .inl h
  · exact .inr ⟨⟨p[0].toNat / 32 - 1, by omega⟩, by simp; omega, by omega⟩

/-! The Head decode in one form (43 R232, R236). -/

theorem decodeHead_dropped {p : Packet} (s : State) (h : p[3].toNat / 32 = 0 ∨ 6 ≤ p[3].toNat / 32) :
    decodeHead p s = (s, [.ignored]) := by
  have h0 : slotOfId (sid (slotField3 p)) = none := by rw [slotOfId_sid_none, slotField3_toNat]; exact h
  simp only [decodeHead, h0]

theorem decodeHead_valid {p : Packet} (s : State) {i : Slot} (h : p[3].toNat / 32 = i.val + 1) :
    decodeHead p s =
      ((s.setSlot i (headX p) (headY s.cfgYmax p)).markSlot i,
        [.fingerUpdate i (headX p) (headY s.cfgYmax p), .fingersSync (s.live ||| slotBit i)]) := by
  have h0 : slotOfId (sid (slotField3 p)) = some i := by rw [slotOfId_sid_some, slotField3_toNat]; exact h
  simp only [decodeHead, h0]
  rfl

theorem head_cases (p : Packet) :
    (p[3].toNat / 32 = 0 ∨ 6 ≤ p[3].toNat / 32) ∨ ∃ i : Slot, p[3].toNat / 32 = i.val + 1 := by
  by_cases h : p[3].toNat / 32 = 0 ∨ 6 ≤ p[3].toNat / 32
  · exact .inl h
  · exact .inr ⟨⟨p[3].toNat / 32 - 1, by omega⟩, by simp; omega⟩

/-! Every decode (43 R230). -/

/-- A decode writes nothing but the slot table and the masks. -/
theorem decodeKind_frame (k : PacketKind) (p : Packet) (s : State) :
    (decodeKind k p s).1 =
      { s with
        slotX := (decodeKind k p s).1.slotX, slotY := (decodeKind k p s).1.slotY
        live := (decodeKind k p s).1.live, track := (decodeKind k p s).1.track } := by
  cases k with
  | unknown => rfl
  | trackPoint => rfl
  | status => rfl
  | head =>
    rcases head_cases p with h | ⟨i, h⟩
    · simp only [decodeKind, decodeHead_dropped s h]
    · simp only [decodeKind, decodeHead_valid s h]; rfl
  | motion =>
    rcases motion_cases p with h | ⟨i, h, h3⟩
    · simp only [decodeKind, decodeMotion_dropped s h]
    · simp only [decodeKind, decodeMotion_valid s h h3]
      rw [applyDelta?_frame, applyDelta_frame]

/-- A decode leaves the masks alone unless the packet is a Status or a Head, and keeps every tracking slot live. -/
theorem decodeKind_trackLive (k : PacketKind) (p : Packet) (s : State)
    (hs : ∀ i : Slot, s.track.getLsbD i.val = true → s.live.getLsbD i.val = true) (i : Slot) :
    (decodeKind k p s).1.track.getLsbD i.val = true → (decodeKind k p s).1.live.getLsbD i.val = true := by
  cases k with
  | unknown => exact hs i
  | trackPoint => exact hs i
  | status => simp [decodeKind, decodeStatus]
  | head =>
    rcases head_cases p with h | ⟨j, h⟩
    · simpa only [decodeKind, decodeHead_dropped s h] using hs i
    · simp only [decodeKind, decodeHead_valid s h, State.markSlot_track, State.markSlot_live, State.setSlot_track,
        State.setSlot_live, BitVec.getLsbD_or, Bool.or_eq_true]
      exact Or.imp_left (hs i)
  | motion =>
    rcases motion_cases p with h | ⟨j, h, h3⟩
    · simpa only [decodeKind, decodeMotion_dropped s h] using hs i
    · simp only [decodeKind, decodeMotion_valid s h h3]
      rw [applyDelta?_frame, applyDelta_frame]
      exact hs i

/-- The completion of a packet: a decode's writes, the frame counter and one record. -/
theorem completePacket_frame (k : PacketKind) (p : Packet) (s : State) :
    completePacket k p s =
      { s with
        frCount := 0
        slotX := (decodeKind k p { s with frCount := 0 }).1.slotX
        slotY := (decodeKind k p { s with frCount := 0 }).1.slotY
        live := (decodeKind k p { s with frCount := 0 }).1.live
        track := (decodeKind k p { s with frCount := 0 }).1.track
        evOut := s.evOut ++ [{ kind := k, raw := p, events := (decodeKind k p { s with frCount := 0 }).2 }] } := by
  simp only [completePacket]
  rw [decodeKind_frame k p { s with frCount := 0 }]
  rfl

/-! The rows of the opcode table and their kinds (30 R92). -/

theorem execRow_eq (r : PktRow) (p : Packet) (s : State) : execRow r p s = .next (completePacket (rowKind r) p s) := by
  cases r <;> rfl

end Sys2Proof.Machine
end

