-- ==== Sys2Proof/Laws/PerInstr.lean ====
section
/-! SUPPORT. One law per instruction: the encoding of a well-formed instruction lies in its row of spec/opcode_table.json. -/

namespace Sys2Proof.Laws.OpcodeRow

/-- The mask and the match of the instruction's row (spec/opcode_table.json). -/
def maskMatch : Instr → Nat × Nat
  | .reset => (0xFFFFFFFFFFFFFFFF, 0x0000000000000000)
  | .profileLoad _ _ _ _ => (0xFF00000000FE0000, 0x1000000000000000)
  | .byteIn _ => (0xFFFFFFFFFFFFFF00, 0x2000000000000000)
  | .regWrite _ _ => (0xFFFFFFFFFFFF0000, 0x3000000000000000)
  | .regRead _ => (0xFFFFFFFFFFFF00FF, 0x4000000000000000)
  | .query _ => (0xFFFFFFFFFFFFFF00, 0x5000000000000000)
  | .slicedQuery _ => (0xFFFFFFFFFFFFFF00, 0x6000000000000000)
  | .pktTrackpoint _ => (0x0000000F0000, 0x000000060000)
  | .pktUnknownSanityCrc _ => (0x000000080000, 0x000000080000)
  | .pktStatusCrc _ => (0x0000000B0000, 0x000000000000)
  | .pktHeadCrc _ => (0x0000000B0000, 0x000000010000)
  | .pktMotionCrc _ => (0x0000000B0000, 0x000000020000)
  | .pktUnknownKind3Crc _ => (0x0000000B0000, 0x000000030000)
  | .pktStatusIc7 _ => (0x0000001F0000, 0x000000100000)
  | .pktHeadIc7 _ => (0x0000001F0000, 0x000000110000)
  | .pktMotionIc7 _ => (0x0000001F0000, 0x000000120000)
  | .pktUnknownKind3Ic7 _ => (0x0000001F0000, 0x000000130000)
  | .pktStatusDefault _ => (0x0800001F0000, 0x000000100000)
  | .pktHeadDefault _ => (0x0800001F0000, 0x000000110000)
  | .pktMotionDefault _ => (0x0800001F0000, 0x000000120000)
  | .pktUnknownKind3Default _ => (0x0800001F0000, 0x000000130000)
  | .pktUnknownSanity _ => (0x000000000000, 0x000000000000)

/-- The word under the mask is the match. -/
def Fits : Encoded → Nat × Nat → Prop
  | .tx t, m => t &&& BitVec.ofNat 64 m.1 = BitVec.ofNat 64 m.2
  | .packet w, m => w &&& BitVec.ofNat 48 m.1 = BitVec.ofNat 48 m.2

def Statement (i : Instr) : Prop := i.wellFormed = true → Fits (encode i) (maskMatch i)

theorem fits_tx {t a b : TxWord} {m n : Nat} (hm : BitVec.ofNat 64 m = a) (hn : BitVec.ofNat 64 n = b)
    (h : t &&& a = b) : Fits (.tx t) (m, n) := by
  subst hm hn; exact h

theorem fits_packet {p : Packet} {a b : Packet} {m n : Nat} (hm : BitVec.ofNat 48 m = a.word)
    (hn : BitVec.ofNat 48 n = b.word) (h : p.word &&& a.word = b.word) : Fits (.packet p.word) (m, n) := by
  show p.word &&& BitVec.ofNat 48 m = BitVec.ofNat 48 n
  rw [hm, hn]; exact h

theorem and_parts {v w : Nat} {x m d : BitVec v} {y n e : BitVec w} (hx : x &&& m = d) (hy : y &&& n = e) :
    (x ++ y) &&& (m ++ n) = d ++ e := by
  rw [BitVec.and_append, hx, hy]

theorem reset : Statement .reset := fun _ => by simp [encode, maskMatch, Fits]

theorem profileLoad (fw : Firmware) (s1 : Byte) (tp : Bool) (ymax : BitVec 16) :
    Statement (.profileLoad fw s1 tp ymax) := fun _ =>
  fits_tx (a := 0xF#4 ++ 0xF#4 ++ 0#24 ++ 0#8 ++ 0x7F#7 ++ 0#1 ++ 0#16)
    (b := 0x1#4 ++ 0#4 ++ 0#24 ++ 0#8 ++ 0#7 ++ 0#1 ++ 0#16) (by decide) (by decide)
    (and_parts (v := 48) (w := 16) (and_parts (v := 47) (w := 1) (and_parts (v := 40) (w := 7)
      (and_parts (v := 32) (w := 8) (and_parts (v := 8) (w := 24) (and_parts (v := 4) (w := 4) (by decide) (by decide))
        BitVec.and_zero) BitVec.and_zero) (by decide)) BitVec.and_zero) BitVec.and_zero)

theorem byteIn (b : Byte) : Statement (.byteIn b) := fun _ =>
  fits_tx (a := 0xF#4 ++ 0xFFFFFFFFFFFFF#52 ++ 0#8)
    (b := 0x2#4 ++ 0#52 ++ 0#8) (by decide) (by decide)
    (and_parts (v := 56) (w := 8) (and_parts (v := 4) (w := 52) (by decide) (by decide)) BitVec.and_zero)

theorem regWrite (addr val : Byte) : Statement (.regWrite addr val) := fun _ =>
  fits_tx (a := 0xF#4 ++ 0xFFFFFFFFFFF#44 ++ 0#8 ++ 0#8)
    (b := 0x3#4 ++ 0#44 ++ 0#8 ++ 0#8) (by decide) (by decide)
    (and_parts (v := 56) (w := 8) (and_parts (v := 48) (w := 8)
    (and_parts (v := 4) (w := 44) (by decide) (by decide)) BitVec.and_zero) BitVec.and_zero)

theorem regRead (addr : Byte) : Statement (.regRead addr) := fun _ =>
  fits_tx (a := 0xF#4 ++ 0xFFFFFFFFFFF#44 ++ 0#8 ++ 0xFF#8)
    (b := 0x4#4 ++ 0#44 ++ 0#8 ++ 0#8) (by decide) (by decide)
    (and_parts (v := 56) (w := 8) (and_parts (v := 48) (w := 8)
    (and_parts (v := 4) (w := 44) (by decide) (by decide)) BitVec.and_zero) (by decide))

theorem query (q : Byte) : Statement (.query q) := fun _ =>
  fits_tx (a := 0xF#4 ++ 0xFFFFFFFFFFFFF#52 ++ 0#8)
    (b := 0x5#4 ++ 0#52 ++ 0#8) (by decide) (by decide)
    (and_parts (v := 56) (w := 8) (and_parts (v := 4) (w := 52) (by decide) (by decide)) BitVec.and_zero)

theorem slicedQuery (q : Byte) : Statement (.slicedQuery q) := fun _ =>
  fits_tx (a := 0xF#4 ++ 0xFFFFFFFFFFFFF#52 ++ 0#8)
    (b := 0x6#4 ++ 0#52 ++ 0#8) (by decide) (by decide)
    (and_parts (v := 56) (w := 8) (and_parts (v := 4) (w := 52) (by decide) (by decide)) BitVec.and_zero)

theorem pktTrackpoint (p : Packet) : Statement (.pktTrackpoint p) := fun h =>
  fits_packet (a := #v[0, 0, 0, 0x0F, 0, 0]) (b := #v[0, 0, 0, 0x06, 0, 0]) (by decide) (by decide)
    ((word_and_header3 p 0x0F 0x06).mpr (by simpa [Instr.wellFormed] using h))

theorem pktUnknownSanityCrc (p : Packet) : Statement (.pktUnknownSanityCrc p) := fun h =>
  fits_packet (a := #v[0, 0, 0, 0x08, 0, 0]) (b := #v[0, 0, 0, 0x08, 0, 0]) (by decide) (by decide)
    ((word_and_header3 p 0x08 0x08).mpr (by simpa [Instr.wellFormed] using h))

theorem pktStatusCrc (p : Packet) : Statement (.pktStatusCrc p) := fun h =>
  fits_packet (a := #v[0, 0, 0, 0x0B, 0, 0]) (b := #v[0, 0, 0, 0x00, 0, 0]) (by decide) (by decide)
    ((word_and_header3 p 0x0B 0x00).mpr (by simpa [Instr.wellFormed, Packet.isCrc] using h))

theorem pktHeadCrc (p : Packet) : Statement (.pktHeadCrc p) := fun h =>
  fits_packet (a := #v[0, 0, 0, 0x0B, 0, 0]) (b := #v[0, 0, 0, 0x01, 0, 0]) (by decide) (by decide)
    ((word_and_header3 p 0x0B 0x01).mpr (by simpa [Instr.wellFormed, Packet.isCrc] using h))

theorem pktMotionCrc (p : Packet) : Statement (.pktMotionCrc p) := fun h =>
  fits_packet (a := #v[0, 0, 0, 0x0B, 0, 0]) (b := #v[0, 0, 0, 0x02, 0, 0]) (by decide) (by decide)
    ((word_and_header3 p 0x0B 0x02).mpr (by simpa [Instr.wellFormed, Packet.isCrc] using h))

theorem pktUnknownKind3Crc (p : Packet) : Statement (.pktUnknownKind3Crc p) := fun h =>
  fits_packet (a := #v[0, 0, 0, 0x0B, 0, 0]) (b := #v[0, 0, 0, 0x03, 0, 0]) (by decide) (by decide)
    ((word_and_header3 p 0x0B 0x03).mpr (by simpa [Instr.wellFormed, Packet.isCrc] using h))

theorem pktStatusIc7 (p : Packet) : Statement (.pktStatusIc7 p) := fun h =>
  fits_packet (a := #v[0, 0, 0, 0x1F, 0, 0]) (b := #v[0, 0, 0, 0x10, 0, 0]) (by decide) (by decide)
    ((word_and_header3 p 0x1F 0x10).mpr (by simpa [Instr.wellFormed, Packet.isIc7] using h))

theorem pktHeadIc7 (p : Packet) : Statement (.pktHeadIc7 p) := fun h =>
  fits_packet (a := #v[0, 0, 0, 0x1F, 0, 0]) (b := #v[0, 0, 0, 0x11, 0, 0]) (by decide) (by decide)
    ((word_and_header3 p 0x1F 0x11).mpr (by simpa [Instr.wellFormed, Packet.isIc7] using h))

theorem pktMotionIc7 (p : Packet) : Statement (.pktMotionIc7 p) := fun h =>
  fits_packet (a := #v[0, 0, 0, 0x1F, 0, 0]) (b := #v[0, 0, 0, 0x12, 0, 0]) (by decide) (by decide)
    ((word_and_header3 p 0x1F 0x12).mpr (by simpa [Instr.wellFormed, Packet.isIc7] using h))

theorem pktUnknownKind3Ic7 (p : Packet) : Statement (.pktUnknownKind3Ic7 p) := fun h =>
  fits_packet (a := #v[0, 0, 0, 0x1F, 0, 0]) (b := #v[0, 0, 0, 0x13, 0, 0]) (by decide) (by decide)
    ((word_and_header3 p 0x1F 0x13).mpr (by simpa [Instr.wellFormed, Packet.isIc7] using h))

theorem pktStatusDefault (p : Packet) : Statement (.pktStatusDefault p) := fun h =>
  fits_packet (a := #v[0x08, 0, 0, 0x1F, 0, 0]) (b := #v[0x00, 0, 0, 0x10, 0, 0]) (by decide) (by decide)
    ((word_and_header03 p 0x1F 0x10 0x08 0x00).mpr (by simpa [Instr.wellFormed, Packet.isDefault] using h))

theorem pktHeadDefault (p : Packet) : Statement (.pktHeadDefault p) := fun h =>
  fits_packet (a := #v[0x08, 0, 0, 0x1F, 0, 0]) (b := #v[0x00, 0, 0, 0x11, 0, 0]) (by decide) (by decide)
    ((word_and_header03 p 0x1F 0x11 0x08 0x00).mpr (by simpa [Instr.wellFormed, Packet.isDefault] using h))

theorem pktMotionDefault (p : Packet) : Statement (.pktMotionDefault p) := fun h =>
  fits_packet (a := #v[0x08, 0, 0, 0x1F, 0, 0]) (b := #v[0x00, 0, 0, 0x12, 0, 0]) (by decide) (by decide)
    ((word_and_header03 p 0x1F 0x12 0x08 0x00).mpr (by simpa [Instr.wellFormed, Packet.isDefault] using h))

theorem pktUnknownKind3Default (p : Packet) : Statement (.pktUnknownKind3Default p) := fun h =>
  fits_packet (a := #v[0x08, 0, 0, 0x1F, 0, 0]) (b := #v[0x00, 0, 0, 0x13, 0, 0]) (by decide) (by decide)
    ((word_and_header03 p 0x1F 0x13 0x08 0x00).mpr (by simpa [Instr.wellFormed, Packet.isDefault] using h))

theorem pktUnknownSanity (p : Packet) : Statement (.pktUnknownSanity p) := fun _ => by
  simp [encode, maskMatch, Fits]

end Sys2Proof.Laws.OpcodeRow
end

