-- ==== Sys2Proof/Laws/Serializer.lean ====
section
/-! SUPPORT. What a move of the serializer can do, said once (40 R122). -/

namespace Sys2Proof.Machine

/-- The state after a step of the plan succeeded with reply r and more steps follow. -/
def State.nextStep (s : State) (r : List Byte) : State :=
  { s with serRep := s.serRep ++ [r], serIdx := s.serIdx + 1, serTry := 1, serPhase := .issue }

/-- The moves of a request in flight and where each leads. -/
inductive SerEffect (s : State) : State → Prop where
  | issue (st : SerStep) (hp : s.serPhase = .issue) (hst : s.serPlan[s.serIdx]? = some st) :
      SerEffect s { s.sendChannel (.transfer st.cmds st.n) with serPhase := .answer }
  | wait (hp : s.serPhase = .wait) :
      SerEffect s { s.sendChannel (.wait s.par.retryDelay) with serTry := s.serTry + 1, serPhase := .issue }
  | hold (hp : s.serPhase = .answer) : SerEffect s s
  | advance (st : SerStep) (r : List Byte) (hst : s.serPlan[s.serIdx]? = some st) (hr : r.length = st.n)
      (hlt : s.serIdx + 1 < s.serPlan.length) : SerEffect s (s.nextStep r)
  | finish (st : SerStep) (r : List Byte) (res : Result) (hst : s.serPlan[s.serIdx]? = some st) (hr : r.length = st.n)
      (hle : s.serPlan.length ≤ s.serIdx + 1) (hres : requestResult s.gen s.serReq (s.serRep ++ [r]) = some res) :
      SerEffect s ((s.nextStep r).endRequest res)
  | finishEmpty (res : Result) (hst : s.serPlan[s.serIdx]? = none)
      (hres : requestResult s.gen s.serReq s.serRep = some res) : SerEffect s (s.endRequest res)
  | retry (st : SerStep) (hst : s.serPlan[s.serIdx]? = some st) (hr : st.retry = true) (ht : s.serTry < s.par.nTries) :
      SerEffect s { s with serPhase := .wait }
  | fail (st : SerStep) (hst : s.serPlan[s.serIdx]? = some st) (h : st.retry = false ∨ s.par.nTries ≤ s.serTry) :
      SerEffect s (s.endRequest (.err (.transferFail s.serIdx s.serTry)))

theorem finishRequest_next {s t : State} (h : finishRequest s = .next t) :
    ∃ res, requestResult s.gen s.serReq s.serRep = some res ∧ t = s.endRequest res := by
  unfold finishRequest at h
  split at h
  · rename_i res hres; cases h; exact ⟨res, hres, rfl⟩
  · cases h

theorem stepDone_next {s t : State} {st : SerStep} {r : List Byte} (hst : s.serPlan[s.serIdx]? = some st)
    (hr : r.length = st.n) (h : stepDone s r = .next t) : SerEffect s t := by
  unfold stepDone at h
  split at h
  · rename_i hlt; cases h; exact .advance st r hst hr hlt
  · rename_i hlt
    obtain ⟨res, hres, rfl⟩ := finishRequest_next h
    exact .finish st r res hst hr (by omega) hres

theorem stepFailed_next {s t : State} {st : SerStep} (hst : s.serPlan[s.serIdx]? = some st)
    (h : stepFailed s st = .next t) : SerEffect s t := by
  unfold stepFailed at h
  split at h
  · rename_i hc; cases h; exact .retry st hst hc.1 hc.2
  · rename_i hc
    cases h
    refine .fail st hst ?_
    by_cases hr : st.retry = true
    · exact .inr (BitVec.not_lt.mp fun ht => hc ⟨hr, ht⟩)
    · exact .inl (by simpa using hr)

theorem serMove_next {s t : State} (h : serMove s = .next t) : SerEffect s t := by
  unfold serMove at h
  split at h
  · rename_i hp
    split at h
    · rename_i st hst; cases h; exact .issue st hp hst
    · rename_i hst
      obtain ⟨res, hres, rfl⟩ := finishRequest_next h
      exact .finishEmpty res hst hres
  · rename_i hp; cases h; exact .wait hp
  · rename_i hp; cases h; exact .hold hp

theorem serAnswer_next {s t : State} {a : ChanAnswer} (h : serAnswer a s = .next t) : SerEffect s t := by
  unfold serAnswer at h
  split at h
  · cases h
  · rename_i st hst
    split at h
    · rename_i r hr; exact stepDone_next hst (transferReply_length hr) h
    · exact stepFailed_next hst h

/-! Plans of the shape 40 R121 asks for. -/

theorem planShape_ne_nil {n : Nat} {pl : List SerStep} (h : PlanShape n pl) : pl ≠ [] := by
  rintro rfl; exact h

/-- The last step of a plan expects n bytes. -/
theorem planShape_last {n : Nat} : ∀ {pl : List SerStep} {i : Nat} {st : SerStep}, PlanShape n pl →
    pl[i]? = some st → pl.length ≤ i + 1 → st.n = n
  | [], _, _, h, _, _ => h.elim
  | [x], 0, st, h, hi, _ => by simp at hi; exact hi ▸ h
  | [x], i + 1, st, _, hi, _ => by simp at hi
  | x :: y :: l, 0, st, _, _, hl => by simp at hl
  | x :: y :: l, i + 1, st, h, hi, hl => planShape_last h.2 (by simpa using hi) (by simpa using hl)

/-- A request whose last reply has the length its plan ends with has a result. -/
theorem requestResult_isSome (g : Option Gen) (req : Req) (rep : List (List Byte)) (r : List Byte)
    (h : r.length = replyBytes req) : ∃ res, requestResult g req (rep ++ [r]) = some res := by
  unfold requestResult
  rw [List.getLast?_concat]
  cases req with
  | write a v => exact ⟨_, rfl⟩
  | read a =>
    match r, h with
    | [r0, r1, r2], _ => exact ⟨_, rfl⟩
  | query q =>
    match r, h with
    | [r0, r1, r2], _ => exact ⟨_, rfl⟩
  | slicedQuery q =>
    match r, h with
    | [r0, r1, r2], _ => exact ⟨_, rfl⟩

end Sys2Proof.Machine
end

