-- ==== Sys2Proof/Laws/Step.lean ====
section
/-! SUPPORT. What an instruction and a step can do, said once: every invariant is a case analysis over these. -/

namespace Sys2Proof.Machine

/-- A request and the plan it starts with (40 R131 to R134). -/
inductive Starts (s : State) : Req → List SerStep → Prop where
  | write (g : Gen) (a v : Byte) (hv : s.cfgValid = true) (hg : genOf s.cfgFw = some g) (ha : addrOK a = true) :
      Starts s (.write a v) (writePlan s.par g a v)
  | read (g : Gen) (a : Byte) (hv : s.cfgValid = true) (hg : genOf s.cfgFw = some g) (ha : addrOK a = true) :
      Starts s (.read a) (readPlan s.par g a)
  | query (g : Gen) (q : Byte) (hv : s.cfgValid = true) (hg : genOf s.cfgFw = some g) :
      Starts s (.query q) (queryPlan s.par (queryDialect g) q)
  | sliced (q : Byte) : Starts s (.slicedQuery q) (slicedQueryPlan s.par q)

/-- What an instruction can do. -/
inductive Effect (s : State) : State → Prop where
  | reset : Effect s s.afterReset
  | load (fw : Firmware) (s1 : Byte) (tp : Bool) (ymax : BitVec 16) (h : genOf fw ≠ none) :
      Effect s ({ s.clearMasks with
        frCount := 0, cfgFw := fw, cfgS1 := s1, cfgTp := tp, cfgYmax := ymax, cfgValid := true }.result .ok)
  | unload (fw : Firmware) (h : genOf fw = none) :
      Effect s ({ s.clearMasks with frCount := 0, cfgValid := false }.result (.err (.unknownHardware fw)))
  | unconfigured (h : s.cfgValid = false) : Effect s s.faultUnconfigured
  | unsupported (h : s.cfgValid = true) : Effect s s.faultUnsupported
  | buffer (b : Byte) (hg : s.gen = some .v4) (h : s.frCount.val < 5) : Effect s (s.putByte b).advanceFrame
  | sixth (b : Byte) (hg : s.gen = some .v4) (h : ¬ s.frCount.val < 5) :
      Effect s (completePacket (rowKind (decodeRow s.pktMode (s.putByte b).frBuf)) (s.putByte b).frBuf
        (s.putByte b).advanceFrame)
  | packet (k : PacketKind) (p : Packet) : Effect s (completePacket k p s)
  | error (e : Err) : Effect s (s.result (.err e))
  | start (r : Req) (plan : List SerStep) (h : Starts s r plan) : Effect s (s.startRequest r plan)

theorem startConfigured_next {r : Req} {plan : Gen → List SerStep} {s t : State}
    (h : startConfigured r plan s = .next t)
    (hs : ∀ g, s.cfgValid = true → genOf s.cfgFw = some g → Starts s r (plan g)) : Effect s t := by
  unfold startConfigured at h
  split at h
  · rename_i hv
    split at h
    · rename_i g hg; cases h; exact .start r _ (hs g hv hg)
    · cases h
  · cases h; exact .error _

theorem execByteIn_next {b : Byte} {s t : State} (h : execByteIn b s = .next t) : Effect s t := by
  unfold execByteIn at h
  split at h
  · rename_i hv; cases h; exact .unconfigured (by simpa using hv)
  · rename_i hv
    split at h
    · cases h; exact .unsupported (by simpa using hv)
    · rename_i hg
      split at h
      · rename_i hc; cases h; exact .buffer b (by simpa using hg) hc
      · rename_i hc; rw [execRow_eq] at h; cases h; exact .sixth b (by simpa using hg) hc

theorem exec_effect {i : Instr} {s t : State} (h : exec i s = .next t) : Effect s t := by
  cases i with
  | reset => cases h; exact .reset
  | profileLoad fw s1 tp ymax =>
    simp only [exec, execProfileLoad] at h
    split at h
    · rename_i hg; cases h; exact .unload fw hg
    · rename_i g hg; cases h; exact .load fw s1 tp ymax (by simp [hg])
  | byteIn b => exact execByteIn_next h
  | regWrite a v =>
    simp only [exec, execRegWrite] at h
    split at h
    · rename_i ha; exact startConfigured_next h fun g hv hg => .write g a v hv hg ha
    · cases h; exact .error _
  | regRead a =>
    simp only [exec, execRegRead] at h
    split at h
    · rename_i ha; exact startConfigured_next h fun g hv hg => .read g a hv hg ha
    · cases h; exact .error _
  | query q => exact startConfigured_next h fun g hv hg => .query g q hv hg
  | slicedQuery q => cases h; exact .start _ _ (.sliced q)
  | pktTrackpoint p => cases h; exact .packet _ _
  | pktUnknownSanityCrc p => cases h; exact .packet _ _
  | pktStatusCrc p => cases h; exact .packet _ _
  | pktHeadCrc p => cases h; exact .packet _ _
  | pktMotionCrc p => cases h; exact .packet _ _
  | pktUnknownKind3Crc p => cases h; exact .packet _ _
  | pktStatusIc7 p => cases h; exact .packet _ _
  | pktHeadIc7 p => cases h; exact .packet _ _
  | pktMotionIc7 p => cases h; exact .packet _ _
  | pktUnknownKind3Ic7 p => cases h; exact .packet _ _
  | pktStatusDefault p => cases h; exact .packet _ _
  | pktHeadDefault p => cases h; exact .packet _ _
  | pktMotionDefault p => cases h; exact .packet _ _
  | pktUnknownKind3Default p => cases h; exact .packet _ _
  | pktUnknownSanity p => cases h; exact .packet _ _

/-- The meaning of a packet row. -/
theorem exec_instr (r : PktRow) (p : Packet) (s : State) :
    exec (r.instr p) s = .next (completePacket (rowKind r) p s) := by
  cases r <;> rfl

/-- What a step can do. `ts` and `ws` are the turns and the waiting words it leaves. -/
inductive StepEffect (s : State) : State → Prop where
  | still : s.serBusy = false → StepEffect s s
  | turn (ts : List Turn) : s.serBusy = false → StepEffect s { s with turns := ts }
  | run (ts : List Turn) (ws : List TxWord) (t : State) :
      s.serBusy = false → Effect { s with turns := ts, waiting := ws } t → StepEffect s t
  | mark (ts : List Turn) (ws : List TxWord) :
      s.serBusy = false → StepEffect s { s with turns := ts, waiting := ws, refusedMark := true }
  | abandon (ts : List Turn) : s.serBusy = true → ResetPresented s → StepEffect s { s with turns := ts }.afterReset
  | queue (ts : List Turn) (ws : List TxWord) : s.serBusy = true → StepEffect s { s with turns := ts, waiting := ws }
  | late (ts : List Turn) (n : Nat) : s.owed = n + 1 → StepEffect s { s with turns := ts, owed := n }
  | serial (ts : List Turn) (t : State) : s.serBusy = true → SerEffect { s with turns := ts } t → StepEffect s t

theorem accept_effect {w : TxWord} {s t : State} (ts : List Turn) (ws : List TxWord) (hb : s.serBusy = false)
    (h : accept w { s with turns := ts, waiting := ws } = .next t) : StepEffect s t := by
  unfold accept at h
  split at h
  · exact .run ts ws t hb (exec_effect h)
  · cases h; exact .mark ts ws hb

theorem lateAnswer_next {s t : State} (h : lateAnswer s = .next t) : ∃ n, s.owed = n + 1 ∧ t = { s with owed := n } := by
  unfold lateAnswer at h
  split at h
  · rename_i n hn; cases h; exact ⟨n, hn, rfl⟩
  · cases h

/-- An owed answer is taken as such. -/
theorem lateAnswer_owed {s : State} {n : Nat} (h : s.owed = n + 1) : lateAnswer s = .next { s with owed := n } := by
  unfold lateAnswer; rw [h]

/-- An answer to no Transfer stops the model. -/
theorem lateAnswer_stray {s : State} (h : s.owed = 0) : lateAnswer s = .fault .strayAnswer := by
  unfold lateAnswer; rw [h]

theorem lateAnswer_effect {s t : State} (ts : List Turn) (h : lateAnswer { s with turns := ts } = .next t) : StepEffect s t := by
  obtain ⟨n, hn, rfl⟩ := lateAnswer_next h
  exact .late ts n hn

theorem step_effect {s t : State} (h : step s = .next t) : StepEffect s t := by
  unfold step turnStep at h
  split at h
  · rename_i hb
    unfold busyTurn at h
    split at h
    · rename_i ht; exact .serial s.turns t hb (serMove_next h)
    · rename_i ts ht; exact .serial ts t hb (serMove_next h)
    · rename_i w ts ht
      unfold presentBusy at h
      split at h
      · rename_i hw; cases h; exact .abandon ts hb ⟨w, ts, ht, hw⟩
      · cases h; exact .queue ts _ hb
    · rename_i ts ht; exact lateAnswer_effect ts h
    · rename_i a ts ht
      split at h
      · exact .serial ts t hb (serAnswer_next h)
      · exact .serial s.turns t hb (serMove_next h)
  · rename_i hb
    have hb : s.serBusy = false := by simpa using hb
    unfold idleTurn at h
    split at h
    · rename_i w ws hw; exact accept_effect s.turns ws hb h
    · rename_i hw
      split at h
      · cases h; exact .still hb
      · rename_i w ts ht; exact accept_effect ts s.waiting hb h
      · rename_i ts ht; cases h; exact .turn ts hb
      · rename_i ts ht; exact lateAnswer_effect ts h
      · rename_i ts ht; exact lateAnswer_effect ts h

end Sys2Proof.Machine
end

