-- ==== Sys2Proof/Tests/Slice0.lean ====
section
/-! SUPPORT. Tests: ill-formed terms are refused, every constructor's word written out from the spec's encoding decodes to it, one or
two single steps an instruction from the spec's vectors (95_test_vectors.md), and a witness for every statement's hypotheses. -/

namespace Sys2Proof.Tests

open Machine

/-! Helpers. -/

/-- The next state's view, if there is one. -/
def seen {α : Type} (f : State → α) : Host.Outcome State Fault Refusal → Option α
  | .next s => some (f s)
  | .fault _ => none
  | .refused _ => none

/-- The V4 profile of vector W6: fw 0x361F03, check mode DEFAULT, y_max 0x0800. -/
def v4 : State := { State.reset with cfgValid := true, cfgFw := 0x361F03, cfgYmax := 0x0800 }

/-- A profile of a given firmware. -/
def withFw (fw : Firmware) : State := { State.reset with cfgValid := true, cfgFw := fw }

/-- v4 with slot 0 live and tracking at (291, 1792), as W6's Head leaves it. -/
def oneFinger : State :=
  { v4 with slotX := #v[291, 0, 0, 0, 0], slotY := #v[1792, 0, 0, 0, 0], live := 0b00001, track := 0b00001 }

/-- A V4 read of register 7 in flight at step i, in a phase, with turns. -/
def reading (i : Nat) (ph : SerPhase) (ts : List Turn) : State :=
  { v4 with
    serBusy := true, serPlan := readPlan .default .v4 0x07, serIdx := i, serTry := 1
    serRep := List.replicate i [], serReq := .read 0x07, serPhase := ph, turns := ts }

/-- Turns given to the state. -/
def given (s : State) (ts : List Turn) : State := { s with turns := ts }

/-! WellFormed: one ill-formed term for each check (30 R83, R92). -/

theorem test_illformed_trackpoint_low_nibble : (Instr.pktTrackpoint #v[0x00, 0, 0, 0x07, 0, 0]).wellFormed = false := by decide

theorem test_illformed_sanity_crc_bit : (Instr.pktUnknownSanityCrc #v[0x00, 0, 0, 0x01, 0, 0]).wellFormed = false := by decide

theorem test_illformed_status_crc_bit3 : (Instr.pktStatusCrc #v[0x00, 0, 0, 0x08, 0, 0]).wellFormed = false := by decide

theorem test_illformed_head_crc_kind : (Instr.pktHeadCrc #v[0x00, 0, 0, 0x02, 0, 0]).wellFormed = false := by decide

theorem test_illformed_motion_crc_kind : (Instr.pktMotionCrc #v[0x00, 0, 0, 0x03, 0, 0]).wellFormed = false := by decide

theorem test_illformed_kind3_crc_kind : (Instr.pktUnknownKind3Crc #v[0x00, 0, 0, 0x00, 0, 0]).wellFormed = false := by decide

theorem test_illformed_status_ic7_constant : (Instr.pktStatusIc7 #v[0x00, 0, 0, 0x14, 0, 0]).wellFormed = false := by decide

theorem test_illformed_head_ic7_kind : (Instr.pktHeadIc7 #v[0x00, 0, 0, 0x10, 0, 0]).wellFormed = false := by decide

theorem test_illformed_motion_ic7_constant : (Instr.pktMotionIc7 #v[0x00, 0, 0, 0x02, 0, 0]).wellFormed = false := by decide

theorem test_illformed_kind3_ic7_constant : (Instr.pktUnknownKind3Ic7 #v[0x00, 0, 0, 0x1B, 0, 0]).wellFormed = false := by decide

theorem test_illformed_status_default_p0 : (Instr.pktStatusDefault #v[0x08, 0, 0, 0x10, 0, 0]).wellFormed = false := by decide

theorem test_illformed_head_default_constant : (Instr.pktHeadDefault #v[0x00, 0, 0, 0x21, 0, 0]).wellFormed = false := by decide

theorem test_illformed_motion_default_kind : (Instr.pktMotionDefault #v[0x00, 0, 0, 0x11, 0, 0]).wellFormed = false := by decide

theorem test_illformed_kind3_default_p0 : (Instr.pktUnknownKind3Default #v[0x0F, 0, 0, 0x13, 0, 0]).wellFormed = false := by decide

theorem test_illformed_sanity_of_passing : (Instr.pktUnknownSanity #v[0x00, 0, 0, 0x11, 0, 0]).wellFormed = false := by decide

/-! Decoding: words written out bit by bit from 30 R80 and R82. -/

theorem test_decode_reset : decodeTx 0x0000000000000000 = .ok .reset := by rfl

/-- Tag 1, fw 0x375F01, s1 0x2A, tp 1, ymax 0x0400. -/
theorem test_decode_profileLoad : decodeTx 0x10375F012A010400 = .ok (.profileLoad 0x375F01 0x2A true 0x0400) := by rfl

theorem test_decode_byteIn : decodeTx 0x20000000000000FD = .ok (.byteIn 0xFD) := by rfl

/-- Address in bits 15 to 8, value in bits 7 to 0 (program P4). -/
theorem test_decode_regWrite : decodeTx 0x300000000000103C = .ok (.regWrite 0x10 0x3C) := by rfl

theorem test_decode_regRead : decodeTx 0x4000000000002600 = .ok (.regRead 0x26) := by rfl

theorem test_decode_query : decodeTx 0x5000000000000002 = .ok (.query 0x02) := by rfl

theorem test_decode_slicedQuery : decodeTx 0x60000000000000FF = .ok (.slicedQuery 0xFF) := by rfl

/-- Vector V12. -/
theorem test_refused_words :
    decodeTx 0x7000000000000000 = .error (.reservedTag 7) ∧ decodeTx 0xF000000000000000 = .error (.reservedTag 15) ∧
    decodeTx 0x2000000000000110 = .error (.mustBeZero 2) ∧ decodeTx 0x11361F0300000000 = .error (.mustBeZero 1) ∧
    decodeTx 0x4000000000000701 = .error (.mustBeZero 4) ∧ decodeTx 0x0000000000000001 = .error (.mustBeZero 0) :=
  ⟨rfl, rfl, rfl, rfl, rfl, rfl⟩

theorem test_decode_pktTrackpoint : decode ⟨true, .default⟩ (.packet 0x000000160000) = .ok (.pktTrackpoint #v[0x00, 0x00, 0x00, 0x16, 0x00, 0x00]) := by rfl

theorem test_decode_pktUnknownSanityCrc : decode ⟨false, .crc⟩ (.packet 0x000000090000) = .ok (.pktUnknownSanityCrc #v[0x00, 0x00, 0x00, 0x09, 0x00, 0x00]) := by rfl

theorem test_decode_pktStatusCrc : decode ⟨false, .crc⟩ (.packet 0x000200000000) = .ok (.pktStatusCrc #v[0x00, 0x02, 0x00, 0x00, 0x00, 0x00]) := by rfl

theorem test_decode_pktHeadCrc : decode ⟨false, .crc⟩ (.packet 0x0003E8210100) = .ok (.pktHeadCrc #v[0x00, 0x03, 0xE8, 0x21, 0x01, 0x00]) := by rfl

theorem test_decode_pktMotionCrc : decode ⟨false, .crc⟩ (.packet 0x2003FE42FC06) = .ok (.pktMotionCrc #v[0x20, 0x03, 0xFE, 0x42, 0xFC, 0x06]) := by rfl

theorem test_decode_pktUnknownKind3Crc : decode ⟨false, .crc⟩ (.packet 0x000000230000) = .ok (.pktUnknownKind3Crc #v[0x00, 0x00, 0x00, 0x23, 0x00, 0x00]) := by rfl

theorem test_decode_pktStatusIc7 : decode ⟨false, .ic7⟩ (.packet 0x08E900100000) = .ok (.pktStatusIc7 #v[0x08, 0xE9, 0x00, 0x10, 0x00, 0x00]) := by rfl

theorem test_decode_pktHeadIc7 : decode ⟨true, .ic7⟩ (.packet 0xF70000F10000) = .ok (.pktHeadIc7 #v[0xF7, 0x00, 0x00, 0xF1, 0x00, 0x00]) := by rfl

theorem test_decode_pktMotionIc7 : decode ⟨false, .ic7⟩ (.packet 0x300000120000) = .ok (.pktMotionIc7 #v[0x30, 0x00, 0x00, 0x12, 0x00, 0x00]) := by rfl

theorem test_decode_pktUnknownKind3Ic7 : decode ⟨false, .ic7⟩ (.packet 0x000000130000) = .ok (.pktUnknownKind3Ic7 #v[0x00, 0x00, 0x00, 0x13, 0x00, 0x00]) := by rfl

theorem test_decode_pktStatusDefault : decode ⟨false, .default⟩ (.packet 0x00E900100000) = .ok (.pktStatusDefault #v[0x00, 0xE9, 0x00, 0x10, 0x00, 0x00]) := by rfl

theorem test_decode_pktHeadDefault : decode ⟨false, .default⟩ (.packet 0x000123310100) = .ok (.pktHeadDefault #v[0x00, 0x01, 0x23, 0x31, 0x01, 0x00]) := by rfl

theorem test_decode_pktMotionDefault : decode ⟨false, .default⟩ (.packet 0xB0807F727F80) = .ok (.pktMotionDefault #v[0xB0, 0x80, 0x7F, 0x72, 0x7F, 0x80]) := by rfl

theorem test_decode_pktUnknownKind3Default : decode ⟨false, .default⟩ (.packet 0x000000130000) = .ok (.pktUnknownKind3Default #v[0x00, 0x00, 0x00, 0x13, 0x00, 0x00]) := by rfl

theorem test_decode_pktUnknownSanity : decode ⟨false, .ic7⟩ (.packet 0x000000010000) = .ok (.pktUnknownSanity #v[0x00, 0x00, 0x00, 0x01, 0x00, 0x00]) := by rfl

/-! Single steps of the transactions (vectors V3, V4, V10, V11). -/

/-- V11: RESET clears the fault bits, the profile, the masks and the frame counter. -/
theorem test_reset_clears :
    seen (fun t => (t.fltUnconfigured, t.fltUnsupported, t.cfgValid, t.live, t.track, t.frCount))
      (exec .reset { oneFinger with fltUnconfigured := true, fltUnsupported := true, live := 0b00011, frCount := 4 }) =
      some (false, false, false, 0, 0, 0) := by decide

/-- V11: RESET in the middle of a register read gives no result and no further Transfer. -/
theorem test_reset_abandons :
    seen (fun t => (t.serBusy, t.results, t.chanOut)) (step (reading 2 .answer [.present 0x0000000000000000])) =
      some (false, [], []) := by decide

/-- V3, row 1. -/
theorem test_profileLoad_v4 :
    seen (fun t => (t.results, t.gen, t.checkMode, t.cfgYmax)) (exec (.profileLoad 0x361F03 0x00 false 0x0800) State.reset) =
      some ([.ok], some .v4, .default, 0x0800) := by decide

/-- V3, row 3: an unmapped firmware in mid-packet. -/
theorem test_profileLoad_unmapped :
    seen (fun t => (t.results, t.cfgValid, t.frCount, t.live, t.track))
      (exec (.profileLoad 0x130000 0x00 false 0) { oneFinger with frCount := 3 }) =
      some ([.err (.unknownHardware 0x130000)], false, 0, 0, 0) := by decide

/-- V4, row 1. -/
theorem test_byteIn_unconfigured :
    seen (fun t => (t.fltUnconfigured, t.fltUnsupported, t.frCount, t.evOut)) (exec (.byteIn 0x00) State.reset) =
      some (true, false, 0, []) := by decide

/-- 42 R200's pseudocode: the sixth byte of a Status is the sixth byte of its record. -/
theorem test_byteIn_completes :
    seen (fun t => (t.frCount, t.evOut)) (exec (.byteIn 0x00) { v4 with frCount := 5, frBuf := #v[0, 0, 0, 0x10, 0, 0xFF] }) =
      some (0, [{ kind := .status, raw := #v[0, 0, 0, 0x10, 0, 0], events := [.fingersSync 0] }]) := by decide

/-- Five 0x00 and then 0x10, by 42 R200's pseudocode and R203: byte 3 is 0x00, so no sanity check passes. R200's example and V4,
row 5 say otherwise (log 32). -/
theorem test_byteIn_pseudocode_order :
    seen (fun t => (t.frCount, t.evOut)) (exec (.byteIn 0x10) { v4 with frCount := 5, frBuf := #v[0, 0, 0, 0, 0, 0xFF] }) =
      some (0, [{ kind := .unknown, raw := #v[0, 0, 0, 0, 0, 0x10], events := [.ignored] }]) := by decide

/-- V10, row 1: the plan of a V4 write, byte for byte. -/
theorem test_regWrite_v4_plan :
    seen (fun t => (t.serBusy, t.serPlan.map SerStep.cmds, t.chanOut)) (exec (.regWrite 0x07 0x01) v4) =
      some (true, [[0xF8], [0x11], [0x07], [0x11], [0x01]], []) := by decide

/-- W4: the plan of a V1 write is sliced and ends with the scaling reset. -/
theorem test_regWrite_v1_plan :
    seen (fun t => t.serPlan.map SerStep.cmds) (exec (.regWrite 0x10 0x11) (withFw 0x020000)) =
      some [[0xE8, 0, 0xE8, 1, 0xE8, 0, 0xE8, 1], [0xE8, 0, 0xE8, 1, 0xE8, 0, 0xE8, 0],
        [0xE8, 0, 0xE8, 1, 0xE8, 0, 0xE8, 1], [0xE6]] := by decide

/-- W5: the address check comes before the configuration check. -/
theorem test_regRead_invalid_first :
    seen (fun t => (t.results, t.serBusy)) (exec (.regRead 0x00) State.reset) =
      some ([.err (.invalidRegister 0x00)], false) := by decide

/-- W4: the last reply of a V4 read gives its second byte. -/
theorem test_regRead_v4_value :
    seen (fun t => (t.results, t.serBusy)) (step (reading 3 .answer [.channel (.ok [0x00, 0x5A, 0x00])])) =
      some ([.okByte 0x5A], false) := by decide

/-- V10, last row. -/
theorem test_query_not_configured :
    seen (fun t => (t.results, t.chanOut)) (exec (.query 0x02) State.reset) = some ([.err .notConfigured], []) := by decide

/-- V10, row 7: a V2 query is sliced although V2 registers are direct (90 C1). -/
theorem test_query_v2_sliced :
    seen (fun t => t.serPlan.map (fun st => (st.cmds, st.n))) (exec (.query 0x02) (withFw 0x040216)) =
      some [([0xE8, 0, 0xE8, 0, 0xE8, 0, 0xE8, 2], 0), ([0xE9], 3)] := by decide

/-- V10: a sliced query needs no profile. -/
theorem test_slicedQuery_without_profile :
    seen (fun t => t.serPlan.map (fun st => (st.cmds, st.n, st.retry))) (exec (.slicedQuery 0xFF) State.reset) =
      some [([0xE8, 3, 0xE8, 3, 0xE8, 3, 0xE8, 3], 0, false), ([0xE9], 3, false)] := by decide

/-- V10, row 3: the third failure of a step is the last. -/
theorem test_third_failure_ends :
    seen (fun t => (t.results, t.serBusy)) (step { reading 1 .answer [.channel .fail] with serTry := 3 }) =
      some ([.err (.transferFail 1 3)], false) := by decide

/-- V12: a refused word changes nothing but the mark. -/
theorem test_refused_word_marks : step (given v4 [.present 0x2000000000000110]) = .next { v4 with refusedMark := true } := rfl

/-! Single steps of the packet rows (vectors W6 to W8, V5 to V9, P2). -/

/-- V9: the row of a TrackPoint leaves the table. -/
theorem test_pktTrackpoint :
    seen (fun t => (t.evOut, t.live, t.slotX[0])) (exec (.pktTrackpoint #v[0, 0, 0, 0x06, 0, 0]) oneFinger) =
      some ([{ kind := .trackPoint, raw := #v[0, 0, 0, 0x06, 0, 0], events := [.ignored] }], 1, 291) := by decide

/-- P2. -/
theorem test_pktUnknownSanityCrc :
    seen (fun t => (t.evOut, t.live, t.slotX[0])) (exec (.pktUnknownSanityCrc #v[0x00, 0x00, 0x00, 0x09, 0x00, 0x00]) oneFinger) =
      some ([{ kind := .unknown, raw := #v[0x00, 0x00, 0x00, 0x09, 0x00, 0x00], events := [.ignored] }], 1, 291) := by decide

/-- P2. -/
theorem test_pktUnknownKind3Crc :
    seen (fun t => (t.evOut, t.live, t.slotX[0])) (exec (.pktUnknownKind3Crc #v[0x00, 0x00, 0x00, 0x23, 0x00, 0x00]) oneFinger) =
      some ([{ kind := .unknown, raw := #v[0x00, 0x00, 0x00, 0x23, 0x00, 0x00], events := [.ignored] }], 1, 291) := by decide

/-- V2. -/
theorem test_pktUnknownKind3Ic7 :
    seen (fun t => (t.evOut, t.live, t.slotX[0])) (exec (.pktUnknownKind3Ic7 #v[0x00, 0x00, 0x00, 0x13, 0x00, 0x00]) oneFinger) =
      some ([{ kind := .unknown, raw := #v[0x00, 0x00, 0x00, 0x13, 0x00, 0x00], events := [.ignored] }], 1, 291) := by decide

/-- W8. -/
theorem test_pktUnknownKind3Default :
    seen (fun t => (t.evOut, t.live, t.slotX[0])) (exec (.pktUnknownKind3Default #v[0x00, 0x00, 0x00, 0x13, 0x00, 0x00]) oneFinger) =
      some ([{ kind := .unknown, raw := #v[0x00, 0x00, 0x00, 0x13, 0x00, 0x00], events := [.ignored] }], 1, 291) := by decide

/-- W8. -/
theorem test_pktUnknownSanity :
    seen (fun t => (t.evOut, t.live, t.slotX[0])) (exec (.pktUnknownSanity #v[0x08, 0x00, 0x00, 0x11, 0x00, 0x00]) oneFinger) =
      some ([{ kind := .unknown, raw := #v[0x08, 0x00, 0x00, 0x11, 0x00, 0x00], events := [.ignored] }], 1, 291) := by decide

/-- P2: slot 0 lifts. -/
theorem test_pktStatusCrc :
    seen (fun t => (t.evOut.map PacketOutput.events, t.live, t.track))
      (exec (.pktStatusCrc #v[0, 2, 0, 0, 0, 0]) { oneFinger with live := 0b00011, track := 0b00011 }) =
      some ([[.fingerLift 0, .fingersSync 0b00010]], 0b00010, 0b00010) := by decide

/-- V5, row 2: mask bits 7 to 5 are not read, and a Status does not make a slot track. -/
theorem test_pktStatusIc7 :
    seen (fun t => (t.evOut.map PacketOutput.events, t.live, t.track)) (exec (.pktStatusIc7 #v[8, 0xE9, 0, 0x10, 0, 0]) v4) =
      some ([[.fingersSync 0b01001]], 0b01001, 0) := by decide

/-- V5, row 5: five lifts, ascending, then the sync. -/
theorem test_pktStatusDefault :
    seen (fun t => t.evOut.map PacketOutput.events)
      (exec (.pktStatusDefault #v[0, 0, 0, 0x10, 0, 0]) { v4 with live := 0b11111 }) =
      some [[.fingerLift 0, .fingerLift 1, .fingerLift 2, .fingerLift 3, .fingerLift 4, .fingersSync 0]] := by decide

/-- P2: y_max 0x0400. -/
theorem test_pktHeadCrc :
    seen (fun t => (t.evOut.map PacketOutput.events, t.live, t.track))
      (exec (.pktHeadCrc #v[0, 7, 0xD0, 0x41, 2, 0]) { oneFinger with cfgYmax := 0x0400 }) =
      some ([[.fingerUpdate 1 2000 512, .fingersSync 0b00011]], 0b00011, 0b00011) := by decide

/-- V6, row 4: the last slot, the largest x. -/
theorem test_pktHeadIc7 :
    seen (fun t => (t.evOut.map PacketOutput.events, t.slotX[4], t.slotY[4]))
      (exec (.pktHeadIc7 #v[0, 0x0F, 0xFF, 0xB1, 0, 0]) v4) =
      some ([[.fingerUpdate 4 4095 2048, .fingersSync 0b10000]], 4095, 2048) := by decide

/-- W6. -/
theorem test_pktHeadDefault :
    seen (fun t => (t.evOut.map PacketOutput.events, t.slotX[0], t.slotY[0]))
      (exec (.pktHeadDefault #v[0, 1, 0x23, 0x31, 1, 0]) v4) =
      some ([[.fingerUpdate 0 291 1792, .fingersSync 1]], 291, 1792) := by decide

/-- V6, row 2: slot field 6 drops the packet. -/
theorem test_pktHeadDefault_out_of_range :
    seen (fun t => (t.evOut.map PacketOutput.events, t.live, t.slotX[4]))
      (exec (.pktHeadDefault #v[0, 0, 5, 0xD1, 0, 5]) v4) = some ([[.ignored]], 0, 0) := by decide

/-- P2: both slots, primary first, y downwards. -/
theorem test_pktMotionCrc :
    seen (fun t => t.evOut.map PacketOutput.events)
      (exec (.pktMotionCrc #v[0x20, 3, 0xFE, 0x42, 0xFC, 6])
        { v4 with live := 3, track := 3, slotX := #v[1000, 2000, 0, 0, 0], slotY := #v[768, 512, 0, 0, 0] }) =
      some [[.fingerUpdate 0 1003 770, .fingerUpdate 1 1996 506, .fingersSync 3]] := by decide

/-- V8: the coarse weight, and 32-bit wrap below zero. -/
theorem test_pktMotionIc7 :
    seen (fun t => (t.evOut.map PacketOutput.events, t.slotX[0], t.slotY[0]))
      (exec (.pktMotionIc7 #v[0x30, 0xFF, 1, 0x12, 0, 0]) { v4 with live := 1, track := 1 }) =
      some ([[.fingerUpdate 0 0xFFFFFFFB 0xFFFFFFFB, .fingersSync 1]], 0xFFFFFFFB, 0xFFFFFFFB) := by decide

/-- W6: dx = 5 at weight 1. -/
theorem test_pktMotionDefault :
    seen (fun t => (t.evOut.map PacketOutput.events, t.slotX[0]))
      (exec (.pktMotionDefault #v[0x20, 5, 0, 0x12, 0, 0]) oneFinger) =
      some ([[.fingerUpdate 0 296 1792, .fingersSync 1]], 296) := by decide

/-- V7: a secondary slot field of 6 drops the primary's delta too. -/
theorem test_pktMotionDefault_secondary_out_of_range :
    seen (fun t => (t.evOut.map PacketOutput.events, t.slotX[0]))
      (exec (.pktMotionDefault #v[0x20, 1, 0, 0xD2, 1, 0]) oneFinger) = some ([[.ignored]], 291) := by decide

/-! Derived signals and the host's functions (vectors W1 to W3, V1, V13; 41 part B). -/

/-- W1, the boundaries of the map. -/
theorem test_generation_boundaries :
    [(0x02002F : Firmware), 0x020030, 0x0205FF, 0x020600, 0x020601, 0x030000, 0x040216, 0x050000, 0x060000, 0x0F0000, 0x100000,
      0x120000, 0xFFFFFF].map genOf =
      [some .v1, some .v2, some .v2, some .v1, some .v2, none, some .v2, some .v3, some .v4, some .v4, none, some .v2,
        some .v4] := by decide

/-- V1. -/
theorem test_check_modes :
    [((0x361F03 : Firmware), (0x00 : Byte)), (0x375F01, 0), (0x471F02, 0x2A), (0x471F02, 0x2B), (0x461F02, 0x2A),
      (0x474F02, 0x2A), (0x073FFF, 0x2A)].map (fun x => (({ withFw x.1 with cfgS1 := x.2 } : State).checkMode)) =
      [.default, .crc, .ic7, .default, .default, .crc, .ic7] := by decide

/-- W2 and V13. -/
theorem test_signatures :
    [((0x3C : Byte), (0x03 : Byte), (200 : Byte)), (0x3C, 0x03, 15), (0x00, 0x05, 0x05), (0x01, 0x00, 0xC8), (0x06, 0x0F, 0x27),
      (0x06, 0x0F, 0x28), (0x05, 0x0F, 0x27), (0x16, 0x5F, 0x14)].map (fun x => sigValid x.1 x.2.1 x.2.2) =
      [false, true, false, true, true, false, true, true] := by decide

/-- 41 R170, R176: the knock's two accepted replies, and a packing with different nibbles. -/
theorem test_knock_and_packing :
    knockOK 0x3C 0x03 0xC8 = true ∧ knockOK 0x3C 0x03 0x00 = true ∧ knockOK 0x3C 0x03 0x01 = false ∧
    packedXMax ⟨0x2A, 0x34, 0x56⟩ = 0xA34 ∧ packedYMax ⟨0x2A, 0x34, 0x56⟩ = 0x256 := by decide

/-- The opcode table's bare words, and that each runs as the first step after reset. -/
theorem test_table_words :
    decodeTableWord 48 0x000123310100 = some (.pktHeadDefault #v[0, 1, 0x23, 0x31, 1, 0]) ∧
    decodeTableWord 24 0x060000 = some (.pktTrackpoint #v[0, 0, 0, 0x06, 0, 0]) ∧
    decodeTableWord 64 0x3000000000000701 = some (.regWrite 0x07 0x01) ∧
    seen (fun t => t.evOut.map PacketOutput.kind) (step (State.reset.withFetchWord 24 0x110000)) = some [.head] := by decide

/-! Witnesses: for each statement with hypotheses, a concrete state and operands that meet all of them. -/

theorem witness_DecodeOfEncodeIsInstruction :
    (Instr.pktHeadDefault #v[0, 1, 0x23, 0x31, 1, 0]).wellFormed = true ∧
    (Instr.pktUnknownSanity #v[8, 0, 0, 0x11, 0, 0]).wellFormed = true ∧ (Instr.regWrite 0xFF 0xFF).wellFormed = true := by decide

theorem witness_EncodeOfDecodeIsWord :
    decode ⟨false, .crc⟩ (.packet 0x2003FE42FC06) = .ok (.pktMotionCrc #v[0x20, 0x03, 0xFE, 0x42, 0xFC, 0x06]) ∧
    decode ⟨false, .crc⟩ (.tx 0x20000000000000FD) = .ok (.byteIn 0xFD) := ⟨rfl, rfl⟩

theorem witness_KindByHeaderBits :
    classify ⟨false, .default⟩ #v[0x00, 0, 0, 0x10, 0, 0] = .status ∧ classify ⟨false, .default⟩ #v[0x08, 0, 0, 0x10, 0, 0] = .unknown ∧
    classify ⟨false, .ic7⟩ #v[0x08, 0, 0, 0x11, 0, 0] = .head ∧ classify ⟨false, .crc⟩ #v[0, 0, 0, 0x06, 0, 0] = .motion ∧
    classify ⟨true, .crc⟩ #v[0, 0, 0, 0x06, 0, 0] = .trackPoint ∧ classify ⟨false, .crc⟩ #v[0, 0, 0, 0x09, 0, 0] = .unknown := by decide

theorem witness_MalformedWordsAreRefused :
    Presents (given v4 [.present 0x7000000000000000, .block]) 0x7000000000000000 [.block] ∧
    decodeTx 0x7000000000000000 = .error (.reservedTag 7) ∧
    [(0x0800000000000000 : TxWord), 0x0000000000000001, 0x1100000000000000, 0x1000000000800000, 0x2800000000000000,
      0x2000000000000100, 0x3800000000000000, 0x3000000000010000, 0x4800000000000000, 0x4000000000010000, 0x4000000000000001,
      0x5800000000000000, 0x5000000000000100, 0x6800000000000000, 0x6000000000000100].map decodeTx =
      ([0, 0, 1, 1, 2, 2, 3, 3, 4, 4, 4, 5, 5, 6, 6] : List (BitVec 4)).map (fun t => .error (.mustBeZero t)) ∧
    step { v4 with refusedMark := true } = .next { v4 with refusedMark := true } :=
  ⟨⟨rfl, rfl, rfl⟩, rfl, by decide, rfl⟩

theorem witness_StepRunsDecodedInstruction :
    Presents (given v4 [.present 0x5000000000000002]) 0x5000000000000002 [] ∧ decodeTx 0x5000000000000002 = .ok (.query 2) ∧
    ({ v4 with waiting := [0x5000000000000002] } : State).serBusy = false ∧
    (reading 0 .issue [.present 0]).serBusy = true ∧ decodeTx 0 = .ok .reset :=
  ⟨⟨rfl, rfl, rfl⟩, rfl, rfl, rfl, rfl⟩

theorem witness_SixthByteRunsDecodedPacket :
    ({ v4 with frCount := 5 } : State).gen = some .v4 ∧ ({ v4 with frCount := 5 } : State).frCount = 5 := by decide

theorem witness_WordsWaitForTheRequest :
    (reading 0 .answer [.present 0x20000000000000FD]).serBusy = true ∧
    (reading 0 .answer [.present 0x20000000000000FD]).turns = [.present 0x20000000000000FD] ∧
    decodeTx 0x20000000000000FD = .ok (.byteIn 0xFD) :=
  ⟨rfl, rfl, rfl⟩

/-- A RESET while a Transfer is unanswered and one before any is issued; then the late answer, when idle, when idle and marked, and
during a later request. -/
theorem witness_ResetAbandonsRequest :
    (reading 3 .answer [.present 0]).serBusy = true ∧ ResetPresented (reading 3 .answer [.present 0]) ∧
    ResetPresented (reading 0 .issue [.present 0]) ∧
    (let s : State := { given v4 [.channel .fail, .block] with owed := 1 }
     0 < s.owed ∧ s.serBusy = false ∧ s.waiting = [] ∧ s.turns = .channel .fail :: [.block]) ∧
    (let s : State := { given v4 [.late (.ok [1]), .block] with owed := 2 }
     0 < s.owed ∧ s.waiting = [] ∧ s.turns = .late (.ok [1]) :: [.block]) ∧
    (let s : State := { reading 0 .answer [.late .fail, .channel (.ok [])] with owed := 1, waiting := [0x20000000000000FD] }
     0 < s.owed ∧ s.serBusy = true ∧ s.turns = .late .fail :: [.channel (.ok [])]) :=
  ⟨rfl, ⟨0, [], rfl, rfl⟩, ⟨0, [], rfl, rfl⟩, by decide, by decide, by decide⟩

/-- 70 R300, 60 R286 (log 30): the answer to the Transfer a RESET abandoned comes after a later request has issued its own; it is
dropped and the later request goes on to its own answer. -/
theorem test_late_answer_is_dropped :
    seen (fun t => (t.owed, t.serBusy, t.serIdx, t.serPhase, t.results))
      (step { reading 0 .answer [.late (.ok [9]), .channel (.ok [])] with owed := 1 }) =
      some (0, true, 0, .answer, []) ∧
    seen (fun t => (t.owed, t.serBusy)) (step (reading 3 .answer [.present 0])) = some (1, false) := by decide

theorem witness_ProfileLoadMappedResult : genOf 0x020030 ≠ none ∧ genOf 0x0F0000 ≠ none ∧ genOf 0x000000 ≠ none := by decide

theorem witness_ProfileLoadUnmappedResult : genOf 0x030000 = none ∧ genOf 0x100000 = none ∧ genOf 0x110000 = none := by decide

theorem witness_ProfileWrittenOnlyByLoadAndReset :
    exec (.slicedQuery 1) v4 = .next (v4.startRequest (.slicedQuery 1) (slicedQueryPlan v4.par 1)) ∧
    Instr.slicedQuery 1 ≠ .reset ∧ ∀ fw s1 tp ymax, Instr.slicedQuery 1 ≠ .profileLoad fw s1 tp ymax :=
  ⟨rfl, by decide, fun _ _ _ _ h => by cases h⟩

theorem witness_ByteWithoutV4ProfileFaults :
    State.reset.cfgValid = false ∧ (withFw 0x050000).cfgValid = true ∧ (withFw 0x050000).gen ≠ some .v4 := by decide

theorem witness_ByteOfPartialPacketIsBuffered :
    v4.gen = some .v4 ∧ v4.frCount.val < 5 ∧ ({ v4 with frCount := 4 } : State).frCount.val < 5 := by decide

theorem witness_SixthByteCompletesPacket :
    ({ oneFinger with frCount := 5 } : State).gen = some .v4 ∧ ({ oneFinger with frCount := 5 } : State).frCount = 5 := by decide

/-- The stream of a Head and one byte more. -/
theorem witness_FramingOfByteStream :
    let bs : List Byte := [0x00, 0x01, 0x23, 0x31, 0x01, 0x00, 0x20]
    let s := given v4 (bs.map (fun b => Turn.present (byteWord b)) ++ [.block])
    s.gen = some .v4 ∧ s.frCount = 0 ∧ s.serBusy = false ∧ s.waiting = [] ∧
      s.turns = bs.map (fun b => Turn.present (byteWord b)) ++ [.block] :=
  ⟨by decide, rfl, rfl, rfl, rfl⟩

theorem witness_FaultBitsAreSticky :
    (∃ t, exec .reset v4 = .next t) ∧
    exec (.byteIn 0) { State.reset with fltUnsupported := true } =
      .next { State.reset with fltUnsupported := true, fltUnconfigured := true } ∧ Instr.byteIn 0 ≠ .reset ∧
    exec (.slicedQuery 1) { v4 with fltUnconfigured := true } =
      .next (({ v4 with fltUnconfigured := true } : State).startRequest (.slicedQuery 1) (slicedQueryPlan v4.par 1)) :=
  ⟨⟨_, rfl⟩, rfl, by decide, rfl⟩

theorem witness_StatusPacketResult :
    Instr.pktStatusIc7 #v[8, 0xE9, 0, 0x10, 0, 0] ∈
      [Instr.pktStatusCrc #v[8, 0xE9, 0, 0x10, 0, 0], .pktStatusIc7 #v[8, 0xE9, 0, 0x10, 0, 0],
        .pktStatusDefault #v[8, 0xE9, 0, 0x10, 0, 0]] := by decide

/-- The first and the last slot. -/
theorem witness_HeadPacketResult :
    let p : Packet := #v[0, 1, 0x23, 0x31, 1, 0]
    let q : Packet := #v[0, 0x0F, 0xFF, 0xB1, 0, 0]
    Instr.pktHeadDefault p ∈ [Instr.pktHeadCrc p, .pktHeadIc7 p, .pktHeadDefault p] ∧ p[3].toNat / 32 = (0 : Slot).val + 1 ∧
    Instr.pktHeadCrc q ∈ [Instr.pktHeadCrc q, .pktHeadIc7 q, .pktHeadDefault q] ∧ q[3].toNat / 32 = (4 : Slot).val + 1 := by
  decide

/-- No secondary slot, the last slot as secondary, and one slot as both. -/
theorem witness_MotionPacketResult :
    let p : Packet := #v[0x20, 5, 0, 0x12, 0, 0]
    let q : Packet := #v[0xB0, 0x80, 0x7F, 0xB2, 0x7F, 0x80]
    let r : Packet := #v[0x20, 1, 1, 0x32, 1, 1]
    Instr.pktMotionDefault p ∈ [Instr.pktMotionCrc p, .pktMotionIc7 p, .pktMotionDefault p] ∧
    p[0].toNat / 32 = (0 : Slot).val + 1 ∧ p[3].toNat / 32 = 0 ∧
    q[0].toNat / 32 = (4 : Slot).val + 1 ∧ q[3].toNat / 32 = (4 : Slot).val + 1 ∧
    r[0].toNat / 32 = (0 : Slot).val + 1 ∧ r[3].toNat / 32 = (0 : Slot).val + 1 := by decide

/-- Slot fields 0, 6 and 7 of a Head; primary 0, 6, 7 and secondary 6, 7 of a Motion; fields 1 and 5 are in no clause. -/
theorem witness_SlotRangeDrops :
    [(0x11 : Byte), 0xD1, 0xF1].map (fun b => decide (b.toNat / 32 = 0 ∨ 6 ≤ b.toNat / 32)) = [true, true, true] ∧
    [(0x31 : Byte), 0xB1].map (fun b => decide (b.toNat / 32 = 0 ∨ 6 ≤ b.toNat / 32)) = [false, false] ∧
    [((0x00 : Byte), (0x12 : Byte)), (0xC0, 0x12), (0xE0, 0x12), (0x20, 0xD2), (0xA0, 0xF2)].map
      (fun x => decide (x.1.toNat / 32 = 0 ∨ 6 ≤ x.1.toNat / 32 ∨ 6 ≤ x.2.toNat / 32)) = [true, true, true, true, true] ∧
    [((0x20 : Byte), (0x12 : Byte)), (0xA0, 0xB2)].map
      (fun x => decide (x.1.toNat / 32 = 0 ∨ 6 ≤ x.1.toNat / 32 ∨ 6 ≤ x.2.toNat / 32)) = [false, false] := by decide

theorem witness_TrackPointAndUnknownResult :
    let p : Packet := #v[0, 0, 0, 0x13, 0, 0]
    Instr.pktUnknownKind3Ic7 p ∈ [Instr.pktUnknownSanityCrc p, .pktUnknownKind3Crc p, .pktUnknownKind3Ic7 p,
      .pktUnknownKind3Default p, .pktUnknownSanity p] := by decide

theorem witness_IgnoredPacketsLeaveTable :
    let p : Packet := #v[0, 0, 5, 0xD1, 0, 5]
    let t : State := { oneFinger with evOut := [{ kind := .head, raw := p, events := [.ignored] }] }
    exec (PktRow.headDefault.instr p) oneFinger = .next t ∧
    t.evOut = oneFinger.evOut ++ [{ kind := .head, raw := p, events := [.ignored] }] := ⟨rfl, rfl⟩

/-- One slot named as primary and secondary is reported twice; the second report is its position. -/
theorem witness_ReportedSlotsTrack :
    seen (fun t => (t.evOut.map PacketOutput.events, t.slotX[0], t.track))
      (exec (PktRow.motionCrc.instr #v[0x20, 1, 0, 0x22, 1, 0]) oneFinger) =
      some ([[.fingerUpdate 0 292 1792, .fingerUpdate 0 293 1792, .fingersSync 1]], 293, 1) := by decide

/-- Two Status packets, two Heads and two Motions that differ in bits no rule reads. -/
theorem witness_UnreadPacketBitsChangeOnlyRaw :
    (let p : Packet := #v[0, 0xE9, 0, 0x10, 0, 0]; let q : Packet := #v[0xF7, 0x09, 7, 0xF0, 1, 2]
     p[1].toNat % 32 = q[1].toNat % 32) ∧
    (let p : Packet := #v[0, 0x01, 0x23, 0x31, 0x01, 0]; let q : Packet := #v[0xF7, 0xF1, 0x23, 0x3D, 0xA1, 0]
     p[3].toNat / 32 = q[3].toNat / 32 ∧ p[1].toNat % 16 = q[1].toNat % 16 ∧ p[2] = q[2] ∧ p[4].toNat % 16 = q[4].toNat % 16 ∧
      p[5] = q[5]) ∧
    (let p : Packet := #v[0x30, 1, 2, 0x52, 3, 4]; let q : Packet := #v[0x3F, 1, 2, 0x40, 3, 4]
     p[0].toNat / 16 = q[0].toNat / 16 ∧ p[3].toNat / 32 = q[3].toNat / 32 ∧ p[1] = q[1] ∧ p[2] = q[2] ∧ p[4] = q[4] ∧
      p[5] = q[5]) := by decide

/-- The addresses beside the windows meet the hypothesis, those at their ends do not. -/
theorem witness_IllegalAddressIsInvalidRegister :
    [(0x00 : Byte), 0x06, 0x12, 0x1F, 0x27, 0xFF].map
      (fun a => decide (¬ ((0x07 ≤ a.toNat ∧ a.toNat ≤ 0x11) ∨ (0x20 ≤ a.toNat ∧ a.toNat ≤ 0x26)))) =
      [true, true, true, true, true, true] ∧
    [(0x07 : Byte), 0x11, 0x20, 0x26].map
      (fun a => decide (¬ ((0x07 ≤ a.toNat ∧ a.toNat ≤ 0x11) ∨ (0x20 ≤ a.toNat ∧ a.toNat ≤ 0x26)))) =
      [false, false, false, false] := by decide

theorem witness_NoProfileIsNotConfigured :
    State.reset.cfgValid = false ∧ Instr.regRead 0x07 ∈ [Instr.regWrite 0x07 1, .regRead 0x07] ∧
    [(0x06 : Byte), 0x07, 0x11, 0x12, 0x1F, 0x20, 0x26, 0x27].map
      (fun a => decide ((0x07 ≤ a.toNat ∧ a.toNat ≤ 0x11) ∨ (0x20 ≤ a.toNat ∧ a.toNat ≤ 0x26))) =
      [false, true, true, false, false, true, true, false] := by decide

theorem witness_RequestsStartTheirPlans :
    [withFw 0x020000, withFw 0x040216, withFw 0x050000, v4].map State.gen = [some .v1, some .v2, some .v3, some .v4] ∧
    addrOK 0x26 = true := by decide

theorem witness_DefaultWritePlans : State.reset.par.table = .default := rfl

theorem witness_DefaultReadAndQueryPlans : v4.par.table = .default := rfl

theorem witness_DialectDecidesRetryAndFraming :
    Params.default.table = .default ∧ regDialect .v2 = .directElan ∧ queryDialect .v2 = .slicedPS2 := ⟨rfl, rfl, rfl⟩

/-- The three ways a turn leaves the Transfer to the block. -/
theorem witness_TransferIsIssued :
    (reading 3 .issue [.block]).serBusy = true ∧ (reading 3 .issue [.block]).serPhase = .issue ∧
    (reading 3 .issue [.block]).serPlan[(reading 3 .issue [.block]).serIdx]? =
      some { cmds := [0xE9], n := 3, retry := true } ∧
    (reading 3 .issue [.block]).turns = [.block] ∧ (reading 0 .issue []).turns = [] ∧
    (reading 0 .issue [.channel .fail]).turns = [.channel .fail] := ⟨rfl, rfl, rfl, rfl, rfl, rfl⟩

theorem witness_RetryWaitsThenTriesAgain :
    let s := { reading 1 .answer [.channel .fail, .block] with serTry := 2 }
    s.serBusy = true ∧ s.serPhase = .answer ∧ s.serPlan[s.serIdx]? = some { cmds := [0x10], n := 0, retry := true } ∧
      s.serTry.toNat < s.par.nTries.toNat ∧ s.turns = [.channel .fail, .block] := by decide

/-- A last attempt that fails, a step that is not retried, and a reply of too few bytes. -/
theorem witness_FinalFailureIsTransferFail :
    (let s := { reading 1 .answer [.channel .fail] with serTry := 3 }
     s.serBusy = true ∧ s.serPhase = .answer ∧ s.serPlan[s.serIdx]? = some { cmds := [0x10], n := 0, retry := true } ∧
      s.par.nTries.toNat ≤ s.serTry.toNat ∧ s.turns = [.channel .fail]) ∧
    (let s := { reading 1 .answer [.channel (.ok [1, 2])] with
        serPlan := slicedQueryPlan .default 1, serReq := .slicedQuery 1 }
     s.serPlan[s.serIdx]? = some { cmds := [0xE9], n := 3, retry := false } ∧ ([1, 2] : List Byte).length < 3 ∧
      s.turns = [.channel (.ok [1, 2])]) := by decide

theorem witness_ReadValueByGeneration :
    let s := reading 3 .answer [.channel (.ok [0x00, 0x5A, 0x00])]
    s.serBusy = true ∧ s.serPhase = .answer ∧ s.serReq = .read 0x07 ∧
      s.serPlan[s.serIdx]? = some { cmds := [0xE9], n := 3, retry := true } ∧ s.serIdx + 1 = s.serPlan.length ∧
      s.turns = [.channel (.ok [0x00, 0x5A, 0x00])] ∧ s.gen = some .v4 := by decide

theorem witness_RequestsLeaveTheRestAlone :
    step (reading 0 .issue []) =
      .next { reading 0 .answer [] with chanOut := [.transfer [0xF8] 0] } ∧ (reading 0 .issue []).serBusy = true ∧
    ¬ ResetPresented (reading 0 .issue []) :=
  ⟨rfl, rfl, fun ⟨_, _, h, _⟩ => by cases h⟩

/-- A V4 read whose first step fails once. -/
theorem witness_RequestRefinesExecute :
    let ans : List ChanAnswer := [.fail, .ok [], .ok [], .ok [], .ok [0, 0x5A, 0]]
    let s := reading 0 .issue (answers ans ++ [.block])
    AtStart s (readPlan .default .v4 0x07) ∧ readPlan .default .v4 0x07 ≠ [] ∧ s.turns = answers ans ++ [.block] ∧
    execute s.par.nTries s.par.retryDelay (readPlan .default .v4 0x07) ans =
      some ([.transfer [0xF8] 0, .wait 500, .transfer [0xF8] 0, .transfer [0x10] 0, .transfer [0x07] 0, .transfer [0xE9] 3],
        .replies [[], [], [], [0, 0x5A, 0]], []) ∧
    endResult s.gen s.serReq (.replies [[], [], [], [0, 0x5A, 0]]) = some (.okByte 0x5A) :=
  ⟨⟨rfl, rfl, rfl, rfl, rfl, rfl⟩, by decide, rfl, by decide, by decide⟩

/-- One step done at once and one that fails at its third attempt; a retried step that succeeds; a step that is not retried. -/
theorem witness_RetriesAreBounded :
    execute 3 500 [⟨[0xF8], 0, true⟩, ⟨[0x11], 0, true⟩] [.ok [], .fail, .fail, .fail] =
      some ([.transfer [0xF8] 0, .transfer [0x11] 0, .wait 500, .transfer [0x11] 0, .wait 500, .transfer [0x11] 0],
        .failed 1 3, []) ∧
    (List.zipWith (stepTrace 500) [⟨[0xF8], 0, true⟩, ⟨[0x11], 0, true⟩] [0, 2]).flatten =
      [.transfer [0xF8] 0, .transfer [0x11] 0, .wait 500, .transfer [0x11] 0, .wait 500, .transfer [0x11] 0] ∧
    execute 2 500 [⟨[0xF8], 0, true⟩] [.fail, .ok []] =
      some ([.transfer [0xF8] 0, .wait 500, .transfer [0xF8] 0], .replies [[]], []) ∧
    execute 3 500 [⟨[0xE6], 0, false⟩] [.fail] = some ([.transfer [0xE6] 0], .failed 0 1, []) := by decide

/-- One request of each kind. -/
theorem witness_RequestsCompleteWhenAnswered :
    (let reps : List (List Byte) := List.replicate 5 []
     Presents (given v4 (.present 0x3000000000000701 :: (okTurns reps ++ [.block]))) 0x3000000000000701 (okTurns reps ++ [.block]) ∧
     decodeTx 0x3000000000000701 = .ok (.regWrite 0x07 0x01) ∧ v4.gen = some .v4 ∧ addrOK 0x07 = true ∧
     writePlan v4.par .v4 0x07 0x01 ≠ [] ∧ reps.map List.length = (writePlan v4.par .v4 0x07 0x01).map SerStep.n) ∧
    (let reps : List (List Byte) := [[], [], [], [0, 0x5A, 0]]
     decodeTx 0x4000000000000700 = .ok (.regRead 0x07) ∧ reps.getLast? = some [0, 0x5A, 0] ∧
     reps.map List.length = (readPlan v4.par .v4 0x07).map SerStep.n) ∧
    (let reps : List (List Byte) := [[], [], [0x10, 0x14, 0]]
     reps.getLast? = some [0x10, 0x14, 0] ∧ reps.map List.length = (queryPlan v4.par (queryDialect .v4) 2).map SerStep.n) ∧
    (let reps : List (List Byte) := [[], [0x46, 0x1F, 3]]
     reps.getLast? = some [0x46, 0x1F, 3] ∧ reps.map List.length = (slicedQueryPlan State.reset.par 1).map SerStep.n) :=
  ⟨⟨⟨rfl, rfl, rfl⟩, rfl, by decide, by decide, by decide, by decide⟩, ⟨rfl, rfl, by decide⟩, ⟨rfl, by decide⟩, ⟨rfl, by decide⟩⟩

/-- Vector W4 on V4 and on V1. -/
theorem witness_RegisterRoundTrip :
    (let wReps : List (List Byte) := List.replicate 5 []
     let rReps : List (List Byte) := List.replicate 3 [] ++ [[0, 0x5A, 0]]
     let s := given v4 (.present 0x300000000000205A :: (okTurns wReps ++ .present 0x4000000000002000 :: (okTurns rReps ++ [])))
     s.par.table = .default ∧ s.gen = some .v4 ∧ addrOK 0x20 = true ∧
      decodeTx 0x300000000000205A = .ok (.regWrite 0x20 0x5A) ∧ decodeTx 0x4000000000002000 = .ok (.regRead 0x20) ∧
      wReps = List.replicate (writePlan s.par .v4 0x20 0x5A).length [] ∧
      rReps = List.replicate ((readPlan s.par .v4 0x20).length - 1) [] ++ [[0, 0x5A, 0]] ∧
      Presents s 0x300000000000205A (okTurns wReps ++ .present 0x4000000000002000 :: (okTurns rReps ++ []))) ∧
    (let s := withFw 0x020000
     s.par.table = .default ∧ s.gen = some .v1 ∧
      (writePlan s.par .v1 0x10 0x11).length = 4 ∧ (readPlan s.par .v1 0x10).length = 3) :=
  ⟨⟨rfl, by decide, by decide, rfl, rfl, by decide, by decide, rfl, rfl, rfl⟩, by decide⟩

theorem witness_TransferCounts : Params.default.table = .default ∧ Params.default.slicedPrefix = [] := ⟨rfl, rfl⟩

theorem witness_SilentChannelHoldsRequest :
    (reading 2 .answer []).serBusy = true ∧ (reading 2 .answer []).serPhase = .answer ∧ (reading 2 .answer []).turns = [] :=
  ⟨rfl, rfl, rfl⟩

/-- The default parameters give every request a well-formed plan. -/
theorem defaultParamsOK : ParamsOK .default where
  write g a v := by
    cases g <;> simp [writePlan, SerializerTable.write, Params.default, SerializerTable.default, PlanShape, planStep, PlanStep.slice,
      PlanStep.direct]
  read g a := by
    cases g <;> simp [readPlan, SerializerTable.read, Params.default, SerializerTable.default, PlanShape, planStep, PlanStep.slice,
      PlanStep.direct]
  query d q := by
    cases d <;> simp [queryPlan, SerializerTable.queryIn, Params.default, SerializerTable.default, PlanShape, planStep,
      PlanStep.slice, PlanStep.direct]
  sliced q := by
    simp [slicedQueryPlan, Params.default, SerializerTable.default, PlanShape, planStep, PlanStep.slice, PlanStep.direct]

/-- A request in flight at its second attempt, with a finger down, meets the invariant and steps. -/
theorem witness_StepKeepsInvariant :
    let s := { reading 1 .answer [.channel .fail] with serTry := 2, live := 0b00011, track := 0b00001 }
    Invariant s ∧ step s = .next { s with turns := [], serPhase := .wait } := by
  refine ⟨⟨defaultParamsOK, by decide, by decide, fun _ => ⟨defaultParamsOK.read .v4 0x07, by decide, by decide, by decide, ?_, ?_,
    .inr rfl⟩⟩, rfl⟩
  · intro st h hr
    cases h
    exact absurd hr (by decide)
  · intro h
    cases h

/-- An answer to no Transfer, in a state of the invariant, as each of its two turns and, for the second, with a word waiting. -/
theorem witness_MachineStopsOnlyOnStrayAnswer :
    Invariant (given oneFinger [.channel .fail]) ∧ (given oneFinger [.channel .fail]).serBusy = false ∧
    (given oneFinger [.channel .fail]).waiting = [] ∧ (given oneFinger [.channel .fail]).owed = 0 ∧
    step (given oneFinger [.channel .fail]) = .fault .strayAnswer ∧
    step (given oneFinger [.late .fail]) = .fault .strayAnswer ∧
    step (reading 0 .answer [.late .fail]) = .fault .strayAnswer ∧
    step { given oneFinger [.late .fail] with owed := 1 } = .next { oneFinger with turns := [] } :=
  ⟨⟨defaultParamsOK, by decide, by decide, fun h => absurd h (by decide)⟩, rfl, rfl, rfl, rfl, rfl, rfl, rfl⟩

/-- Two states that differ in the coordinates of slots that do not track, in buffer bytes not yet received and in the idle
serializer. -/
theorem witness_UnspecifiedElementsAreUnobserved :
    let s : State := { oneFinger with frCount := 2 }
    let t : State := { oneFinger with
      frCount := 2, slotX := #v[291, 7, 8, 9, 10], slotY := #v[1792, 1, 2, 3, 4], frBuf := #v[0, 0, 5, 6, 7, 8]
      serIdx := 9, serReq := .query 7, freeCount := 3 }
    Agree s t ∧ s ≠ t :=
  ⟨⟨rfl, rfl, rfl, rfl, fun _ => ⟨rfl, rfl, rfl, rfl⟩, rfl, rfl, by decide, rfl, by decide, rfl, fun h => absurd h (by decide),
    rfl, rfl, rfl, rfl, rfl, rfl, rfl⟩, by decide⟩

/-- Two states with no profile that differ in the profile registers. -/
theorem witness_StatusPortShowsNoUnspecified :
    let t : State := { State.reset with cfgFw := 0x361F03, cfgS1 := 0x2A, cfgTp := true, cfgYmax := 0x0800 }
    Agree State.reset t ∧ State.reset ≠ t :=
  ⟨⟨rfl, rfl, rfl, rfl, fun h => absurd h (by decide), rfl, rfl, by decide, rfl, by decide, rfl, fun h => absurd h (by decide),
    rfl, rfl, rfl, rfl, rfl, rfl, rfl⟩, by decide⟩

theorem witness_PortsOnlyGrow :
    step (given State.reset [.present 0x4000000000000000]) =
      .next { State.reset with results := [.err (.invalidRegister 0)] } := rfl

theorem witness_TraceAndResolutionRules :
    traceWidth 2 2 = .ok 2 ∧ traceWidth 5 4 = .error .geometryFail ∧ traceWidth 1 4 = .error .geometryFail ∧
    rowTraces 2 2 = some 2 ∧ rowTraces 3 2 = none ∧ rowTraces 1 2 = none ∧
    traceGeometry ⟨0x10, 28, 16⟩ ⟨0x0E, 0x1C, 0x10⟩ = .ok ⟨28, 133, some 16⟩ ∧
    traceGeometry ⟨0x10, 28, 17⟩ ⟨0x0E, 0x1C, 0x10⟩ = .ok ⟨28, 133, none⟩ ∧
    traceGeometry ⟨0x10, 1, 16⟩ ⟨0x0E, 0x1C, 0x10⟩ = .error .geometryFail := ⟨rfl, rfl, rfl, rfl, rfl, rfl, rfl, rfl, rfl⟩

/-- Constants for the host, all of them open in the spec. -/
def someHost : HostParams where
  knockSeq := [0xF5, 0xE9]
  fwverQuery := 1
  fwidQuery := 0
  capQuery := 2
  sampleQuery := 3
  resQuery := 4
  v1Bounds := ⟨0, 1, 0, 1⟩
  v2Fixed0800 := ⟨0, 1, 0, 1⟩
  v2Fixed0B00 := ⟨0, 1, 0, 1⟩
  v2Fixed0030 := ⟨0, 1, 0, 1⟩
  v2XMin := 0
  v2YMin := 0
  v2CapX := 1
  v2CapY := 2
  v34XMin := 0
  v34YMin := 0
  defaultRes := (31, 31)

/-- A host that leaves the V2 maxima alone and takes the resolution of both axes from one byte. -/
def somePolicy : HostPolicy where
  tp := false
  v2Adjust := fun _ _ _ m => m
  resNibbles := fun r => (r.b0.extractLsb' 0 4, r.b0.extractLsb' 4 4)

/-- The profile of 41 R176's first reply on V4 with 28 column traces and 16 row traces. -/
def someProfile : DeviceProfile where
  gen := .v4
  fw := 0x461F03
  caps := ⟨0x10, 28, 16⟩
  samples := ⟨0, 0x2A, 0⟩
  tp := false
  bounds := ⟨0, 3612, 0, 16⟩
  resolution := (37, 31)
  traces := some ⟨28, 133, some 16⟩
  boundsMet := rfl

/-- A y_max of a packed reply, and the greatest that fits. -/
theorem witness_BoundsPacking :
    someProfile.bounds = packedBounds someHost ⟨0x0E, 0x1C, 0x10⟩ ∧ profileOf someProfile = .profileLoad 0x461F03 0x2A false 16 ∧
    ymaxOperand 65535 = 0xFFFF ∧ ymaxOperand 0 = 0 := ⟨by decide, by decide, by decide, by decide⟩

/-- Answers that end in the profile above: good knock, signature and queries. -/
def goodReplies : BootReplies where
  knock := some ⟨0x3C, 0x03, 0xC8⟩
  fwver := .ok ⟨0x46, 0x1F, 0x03⟩
  caps := .ok ⟨0x10, 28, 16⟩
  samples := .ok ⟨0, 0x2A, 0⟩
  fwid := .ok ⟨0x0E, 0x1C, 0x10⟩
  res := .ok ⟨0x0F, 0, 0⟩

/-- The boot with these answers, and one write. -/
def bootWith (r : BootReplies) : HostRun DeviceProfile := boot someHost somePolicy (fun _ => [(0x07, 0x01)]) r

/-- 41 R170 to R172, and 41 R176's example on V4 with 28 column traces; the known bug fails. -/
theorem witness_DetectionAndResolutionFailClosed :
    detect goodReplies.knock goodReplies.fwver = .ok 0x461F03 ∧
    resolve someHost somePolicy 0x461F03 ⟨0x10, 28, 16⟩ ⟨0, 0x2A, 0⟩ ⟨0x0E, 0x1C, 0x10⟩ (some ⟨0x0F, 0, 0⟩) = .ok someProfile ∧
    resolve someHost somePolicy 0x050000 ⟨0x10, 28, 0⟩ ⟨0, 0x74, 0⟩ ⟨0x0E, 0x1C, 0x10⟩ none = .error .geometryFail ∧
    (bootWith goodReplies).outcome = .ok someProfile := by decide

/-- 70 R302: the whole order of a boot that succeeds. -/
theorem test_boot_succeeds :
    (bootWith goodReplies).acts =
      [.present .reset, .knock [0xF5, 0xE9], .present (.slicedQuery 1), .present (.profileLoad 0x461F03 0 false 0),
       .present (.query 2), .present (.query 3), .present (.query 0), .present (.query 4),
       .present (.profileLoad 0x461F03 0x2A false 16), .present (.regWrite 0x07 0x01)] := by decide

/-- 70 R302, 41 R182: where each failure stops the order, by the number of acts made and the failure. -/
theorem test_boot_stops :
    (let view := fun (r : BootReplies) => ((bootWith r).acts.length, (bootWith r).outcome)
     [view { goodReplies with knock := some ⟨0x3C, 0x03, 0x01⟩ }, view { goodReplies with knock := none },
      view { goodReplies with fwver := .ok ⟨0x3C, 0x03, 200⟩ }, view { goodReplies with fwver := .error (.transferFail 0 1) },
      view { goodReplies with fwver := .ok ⟨0x03, 0x00, 0x00⟩ }, view { goodReplies with caps := .error (.transferFail 1 3) },
      view { goodReplies with samples := .error (.transferFail 0 3) }, view { goodReplies with fwid := .error (.transferFail 2 3) },
      view { goodReplies with res := .error (.transferFail 2 3) }, view { goodReplies with caps := .ok ⟨0x10, 1, 16⟩ },
      view { goodReplies with fwid := .ok ⟨0x0E, 0x1C, 0x00⟩ }]) =
      [(2, .error .notElantech), (2, .error .notElantech), (3, .error .notElantech), (3, .error (.transferFail 0 1)),
       (4, .error (.unknownHardware 0x030000)), (5, .error (.transferFail 1 3)), (6, .error (.transferFail 0 3)),
       (7, .error (.transferFail 2 3)), (8, .error (.transferFail 2 3)), (8, .error .geometryFail),
       (8, .error .geometryFail)] := by decide

end Sys2Proof.Tests
end

/-! BYTE_IN and the instructions besides RESET, PROFILE_LOAD and BYTE_IN, said case by case; the profile registers and the fault
bits (10 R23 to R29, R42). -/

namespace Sys2Proof

open Machine

section ByteIn

variable {s : State}

theorem cfgValid_of_gen {g : Gen} (h : s.gen = some g) : s.cfgValid = true := by
  unfold State.gen at h
  split at h
  · assumption
  · cases h

/-- The four cases of a BYTE_IN (42 R200). -/
theorem byteIn_cases (s : State) :
    s.cfgValid = false ∨ (s.cfgValid = true ∧ s.gen ≠ some .v4) ∨ (s.gen = some .v4 ∧ s.frCount.val < 5) ∨
      (s.gen = some .v4 ∧ ¬ s.frCount.val < 5) := by
  cases hv : s.cfgValid with
  | false => exact .inl rfl
  | true =>
    by_cases hg : s.gen = some .v4
    · by_cases hc : s.frCount.val < 5
      · exact .inr (.inr (.inl ⟨hg, hc⟩))
      · exact .inr (.inr (.inr ⟨hg, hc⟩))
    · exact .inr (.inl ⟨rfl, hg⟩)

theorem execByteIn_unconfigured (b : Byte) (hv : s.cfgValid = false) : execByteIn b s = .next s.faultUnconfigured := by
  simp [execByteIn, hv]

theorem execByteIn_unsupported (b : Byte) (hv : s.cfgValid = true) (hg : s.gen ≠ some .v4) :
    execByteIn b s = .next s.faultUnsupported := by
  simp [execByteIn, hv, hg]

theorem execByteIn_buffer (b : Byte) (hg : s.gen = some .v4) (hc : s.frCount.val < 5) :
    execByteIn b s = .next (s.putByte b).advanceFrame := by
  simp [execByteIn, cfgValid_of_gen hg, hg, hc]

theorem execByteIn_sixth (b : Byte) (hg : s.gen = some .v4) (hc : ¬ s.frCount.val < 5) :
    execByteIn b s = .next (completePacket (rowKind (decodeRow s.pktMode (s.putByte b).frBuf)) (s.putByte b).frBuf
      (s.putByte b).advanceFrame) := by
  simp [execByteIn, cfgValid_of_gen hg, hg, hc, execRow_eq]

end ByteIn

/-- What an instruction other than RESET, PROFILE_LOAD and BYTE_IN can do. -/
inductive PlainEffect (s : State) : State → Prop where
  | packet (k : PacketKind) (p : Packet) : PlainEffect s (completePacket k p s)
  | error (e : Err) : PlainEffect s (s.result (.err e))
  | start (r : Req) (plan : List SerStep) : PlainEffect s (s.startRequest r plan)

theorem startConfigured_plainEffect {r : Req} {plan : Gen → List SerStep} {s t : State}
    (h : startConfigured r plan s = .next t) : PlainEffect s t := by
  unfold startConfigured at h
  split at h
  · split at h
    · cases h; exact .start r _
    · cases h
  · cases h; exact .error _

theorem exec_plainEffect {i : Instr} {s t : State} (h : exec i s = .next t) (hr : i ≠ .reset)
    (hl : ∀ fw s1 tp ymax, i ≠ .profileLoad fw s1 tp ymax) (hb : ∀ b, i ≠ .byteIn b) : PlainEffect s t := by
  cases i with
  | reset => exact absurd rfl hr
  | profileLoad fw s1 tp ymax => exact absurd rfl (hl fw s1 tp ymax)
  | byteIn b => exact absurd rfl (hb b)
  | regWrite a v =>
    simp only [exec, execRegWrite] at h
    split at h
    · exact startConfigured_plainEffect h
    · cases h; exact .error _
  | regRead a =>
    simp only [exec, execRegRead] at h
    split at h
    · exact startConfigured_plainEffect h
    · cases h; exact .error _
  | query q => exact startConfigured_plainEffect h
  | slicedQuery q => cases h; exact .start _ _
  | pktTrackpoint p | pktUnknownSanityCrc p | pktStatusCrc p | pktHeadCrc p | pktMotionCrc p | pktUnknownKind3Crc p
  | pktStatusIc7 p | pktHeadIc7 p | pktMotionIc7 p | pktUnknownKind3Ic7 p | pktStatusDefault p | pktHeadDefault p
  | pktMotionDefault p | pktUnknownKind3Default p | pktUnknownSanity p => cases h; exact .packet _ p

/-! The profile registers (10 R24, R33). -/

/-- The profile registers are the same. -/
def SameProfile (s t : State) : Prop :=
  t.cfgValid = s.cfgValid ∧ t.cfgFw = s.cfgFw ∧ t.cfgS1 = s.cfgS1 ∧ t.cfgTp = s.cfgTp ∧ t.cfgYmax = s.cfgYmax

theorem completePacket_sameProfile (k : PacketKind) (p : Packet) (s : State) : SameProfile s (completePacket k p s) := by
  rw [completePacket_frame]
  exact ⟨rfl, rfl, rfl, rfl, rfl⟩

theorem PlainEffect.sameProfile {s t : State} (h : PlainEffect s t) : SameProfile s t := by
  cases h with
  | packet k p => exact completePacket_sameProfile k p s
  | error e => exact ⟨rfl, rfl, rfl, rfl, rfl⟩
  | start r plan => exact ⟨rfl, rfl, rfl, rfl, rfl⟩

theorem execByteIn_sameProfile {b : Byte} {s t : State} (h : execByteIn b s = .next t) : SameProfile s t := by
  rcases byteIn_cases s with hv | ⟨hv, hg⟩ | ⟨hg, hc⟩ | ⟨hg, hc⟩
  · rw [execByteIn_unconfigured b hv] at h; cases h; exact ⟨rfl, rfl, rfl, rfl, rfl⟩
  · rw [execByteIn_unsupported b hv hg] at h; cases h; exact ⟨rfl, rfl, rfl, rfl, rfl⟩
  · rw [execByteIn_buffer b hg hc] at h; cases h; exact ⟨rfl, rfl, rfl, rfl, rfl⟩
  · rw [execByteIn_sixth b hg hc] at h; cases h; exact completePacket_sameProfile _ _ (s.putByte b).advanceFrame

/-- Settles O17: BYTE_IN and every plain instruction leave the five registers as they are. -/
theorem profileWrittenOnlyByLoadAndReset : Obligations.ProfileWrittenOnlyByLoadAndReset := by
  intro i s t h hr hl
  by_cases hb : ∃ b, i = .byteIn b
  · obtain ⟨b, rfl⟩ := hb
    exact execByteIn_sameProfile h
  · exact (exec_plainEffect h hr hl fun b e => hb ⟨b, e⟩).sameProfile

/-! The fault bits (10 R23). -/

/-- The fault bits are the same. -/
def SameFaults (s t : State) : Prop := t.fltUnconfigured = s.fltUnconfigured ∧ t.fltUnsupported = s.fltUnsupported

theorem completePacket_sameFaults (k : PacketKind) (p : Packet) (s : State) : SameFaults s (completePacket k p s) := by
  rw [completePacket_frame]
  exact ⟨rfl, rfl⟩

theorem PlainEffect.sameFaults {s t : State} (h : PlainEffect s t) : SameFaults s t := by
  cases h with
  | packet k p => exact completePacket_sameFaults k p s
  | error e => exact ⟨rfl, rfl⟩
  | start r plan => exact ⟨rfl, rfl⟩

theorem execProfileLoad_sameFaults {fw : Firmware} {s1 : Byte} {tp : Bool} {ymax : BitVec 16} {s t : State}
    (h : execProfileLoad fw s1 tp ymax s = .next t) : SameFaults s t := by
  unfold execProfileLoad at h
  dsimp only at h
  split at h <;> (cases h; exact ⟨rfl, rfl⟩)

theorem exec_sameFaults {i : Instr} {s t : State} (h : exec i s = .next t) (hr : i ≠ .reset) (hb : ∀ b, i ≠ .byteIn b) :
    SameFaults s t := by
  by_cases hl : ∃ fw s1 tp ymax, i = .profileLoad fw s1 tp ymax
  · obtain ⟨fw, s1, tp, ymax, rfl⟩ := hl
    exact execProfileLoad_sameFaults h
  · exact (exec_plainEffect h hr (fun fw s1 tp ymax e => hl ⟨fw, s1, tp, ymax, e⟩) hb).sameFaults

theorem execByteIn_faults {b : Byte} {s t : State} (h : execByteIn b s = .next t) :
    (t.fltUnconfigured = true ↔ s.fltUnconfigured = true ∨ s.cfgValid = false) ∧
      (t.fltUnsupported = true ↔ s.fltUnsupported = true ∨ s.cfgValid = true ∧ s.gen ≠ some .v4) := by
  rcases byteIn_cases s with hv | ⟨hv, hg⟩ | ⟨hg, hc⟩ | ⟨hg, hc⟩
  · rw [execByteIn_unconfigured b hv] at h; cases h; simp [hv]
  · rw [execByteIn_unsupported b hv hg] at h; cases h; simp [hv, hg]
  · rw [execByteIn_buffer b hg hc] at h; cases h; simp [cfgValid_of_gen hg, hg]
  · rw [execByteIn_sixth b hg hc] at h
    cases h
    obtain ⟨h1, h2⟩ := completePacket_sameFaults (rowKind (decodeRow s.pktMode (s.putByte b).frBuf)) (s.putByte b).frBuf
      (s.putByte b).advanceFrame
    rw [h1, h2]
    simp [cfgValid_of_gen hg, hg]

/-- Settles O22: only BYTE_IN sets a fault bit, in the case of 10 R23, and only RESET clears one. -/
theorem faultBitsAreSticky : Obligations.FaultBitsAreSticky := by
  refine ⟨fun i s t h hr => ?_, fun s t h => ?_, fun s => ⟨rfl, rfl⟩, rfl, rfl⟩
  · by_cases hb : ∃ b, i = .byteIn b
    · obtain ⟨b, rfl⟩ := hb
      simpa using execByteIn_faults h
    · obtain ⟨h1, h2⟩ := exec_sameFaults h hr fun b e => hb ⟨b, e⟩
      simp [h1, h2, hb]
  · cases h
    exact ⟨rfl, rfl⟩

/-! The check mode (10 R26, R27, R29). -/

theorem crcEnabled_iff (s : State) : s.crcEnabled = true ↔ s.cfgFw.toNat / 2 ^ 14 % 2 = 1 := by
  simp [State.crcEnabled, BitVec.getLsbD, Nat.testBit_eq_decide_div_mod_eq]

theorem icVersion_toNat (s : State) : s.icVersion.toNat = s.cfgFw.toNat / 2 ^ 16 % 16 := by
  simp [State.icVersion, BitVec.extractLsb'_toNat, Nat.shiftRight_eq_div_pow]

theorem icVersion_eq_seven_iff (s : State) : s.icVersion = 7 ↔ s.cfgFw.toNat / 2 ^ 16 % 16 = 7 := by
  rw [← icVersion_toNat, ← BitVec.toNat_inj]
  rfl

/-- Settles O16: the three branches of `check_mode`, with both signals read as bits of `cfg_fw`. -/
theorem checkModePriority : Obligations.CheckModePriority := by
  intro s
  have hcrc : s.crcEnabled = false ↔ s.cfgFw.toNat / 2 ^ 14 % 2 = 0 := by
    rw [← Bool.not_eq_true, crcEnabled_iff]; omega
  refine ⟨crcEnabled_iff s, icVersion_toNat s, ?_⟩
  rw [← hcrc, ← crcEnabled_iff, ← icVersion_eq_seven_iff]
  unfold State.checkMode
  cases s.crcEnabled with
  | true => simp
  | false =>
    rw [if_neg Bool.false_ne_true]
    split
    · next h7 => exact ⟨by decide, ⟨fun _ => ⟨rfl, h7⟩, fun _ => rfl⟩, ⟨nofun, fun h => absurd h7 h.2⟩⟩
    · next h7 => exact ⟨by decide, ⟨nofun, fun h => absurd h.2 h7⟩, ⟨fun _ => ⟨rfl, h7⟩, fun _ => rfl⟩⟩

/-! The reset state (10 R42). -/

/-- Settles O12: every value is read off the reset state. -/
theorem resetStateValues : Obligations.ResetStateValues :=
  ⟨rfl, rfl, rfl, rfl, rfl, rfl, rfl, rfl, rfl, rfl, rfl⟩

/-! The dialects (10 R28, 40 R121). -/

/-- The framing a dialect asks of a step: retried and one byte in DirectElan, not retried in SlicedPS2 (40 R121). -/
def Framed : Dialect → PlanStep → Prop
  | .directElan, st => st.retry = true ∧ ∃ b, st.cmds = [.plain b]
  | .slicedPS2, st => st.retry = false

theorem framed_planStep {d : Dialect} {st : PlanStep} (par : Params) (r : Req) (h : Framed d st) :
    ((planStep par r st).retry = true ↔ d = .directElan) ∧ (d = .directElan → (planStep par r st).cmds.length = 1) := by
  cases d with
  | slicedPS2 =>
    have hr : st.retry = false := h
    simp [planStep, hr]
  | directElan =>
    obtain ⟨hr, b, hb⟩ := h
    simp [planStep, hr, hb, planPiece]

theorem framed_map {d : Dialect} {pl : List PlanStep} (par : Params) (r : Req) (h : ∀ st ∈ pl, Framed d st) :
    ∀ st ∈ pl.map (planStep par r), (st.retry = true ↔ d = .directElan) ∧ (d = .directElan → st.cmds.length = 1) := by
  intro st hst
  obtain ⟨st0, hmem, rfl⟩ := List.mem_map.mp hst
  exact framed_planStep par r (h st0 hmem)

theorem framed_default_write (g : Gen) : ∀ st ∈ SerializerTable.write .default g, Framed (regDialect g) st := by
  cases g <;> simp [SerializerTable.write, SerializerTable.default, regDialect, Framed, PlanStep.slice, PlanStep.direct]

theorem framed_default_read (g : Gen) : ∀ st ∈ SerializerTable.read .default g, Framed (regDialect g) st := by
  cases g <;> simp [SerializerTable.read, SerializerTable.default, regDialect, Framed, PlanStep.slice, PlanStep.direct]

theorem framed_default_query (d : Dialect) : ∀ st ∈ SerializerTable.queryIn .default d, Framed d st := by
  cases d <;> simp [SerializerTable.queryIn, SerializerTable.default, Framed, PlanStep.slice, PlanStep.direct]

/-- Settles O39: the default table frames every step as its plan's dialect asks, and filling in the operands keeps that. -/
theorem dialectDecidesRetryAndFraming : Obligations.DialectDecidesRetryAndFraming := by
  intro par g a v q ht
  refine ⟨by cases g <;> decide, by cases g <;> decide, fun st hst => ?_, ?_, fun st hst => ?_⟩
  · rcases List.mem_append.mp hst with hw | hr
    · exact framed_map par _ (ht ▸ framed_default_write g) st hw
    · exact framed_map par _ (ht ▸ framed_default_read g) st hr
  · exact framed_map par _ (ht ▸ framed_default_query (queryDialect g))
  · have hd := (framed_map par _ (ht ▸ framed_default_query .slicedPS2) st hst).1
    exact Bool.eq_false_iff.mpr fun hr => absurd (hd.mp hr) (by decide)

end Sys2Proof

/-! The invariant of the machine: what each effect of a step does to it (10 R24, R32, R41, 40 R121, R122, 43 R238). -/

namespace Sys2Proof

open Machine

/-- The default parameters give every request a plan of the shape 40 R121 asks for. -/
theorem paramsOK_default : ParamsOK .default where
  write g a v := by
    cases g with
    | v1 | v2 | v3 => exact ⟨rfl, rfl, rfl, rfl⟩
    | v4 => exact ⟨rfl, rfl, rfl, rfl, rfl⟩
  read g a := by
    cases g with
    | v1 => exact ⟨rfl, rfl, rfl⟩
    | v2 | v3 | v4 => exact ⟨rfl, rfl, rfl, rfl⟩
  query d q := by
    cases d with
    | slicedPS2 => exact ⟨rfl, rfl⟩
    | directElan => exact ⟨rfl, rfl, rfl⟩
  sliced q := ⟨rfl, rfl⟩

/-- A state with no slot tracking, no profile and no request in flight. -/
theorem invariant_of_cleared {s : State} (hp : ParamsOK s.par) (ht : s.track = 0)
    (hm : s.cfgValid = true → genOf s.cfgFw ≠ none) (hb : s.serBusy = false) : Invariant s where
  params := hp
  trackLive i h := by simp [ht] at h
  mapped := hm
  request h := by simp [hb] at h

/-- Settles O51: at reset nothing tracks, no profile is loaded, no request is in flight, and the parameters are the default. -/
theorem resetMeetsInvariant : Obligations.ResetMeetsInvariant :=
  invariant_of_cleared paramsOK_default rfl nofun rfl

section Effects

variable {s t : State}

/-- The agents' queues, the owed answers and the mark play no part in the invariant. -/
theorem Invariant.withQueues (h : Invariant s) (ts : List Turn) (ws : List TxWord) (n : Nat) (m : Bool) :
    Invariant { s with turns := ts, waiting := ws, owed := n, refusedMark := m } where
  params := h.params
  trackLive := h.trackLive
  mapped := h.mapped
  request hb := { h.request hb with }

/-- The parameters, the masks and the profile stay; the request in flight, if there is one, is consistent. -/
theorem Invariant.ofRequest (h : Invariant s) (hp : t.par = s.par) (htr : t.track = s.track) (hl : t.live = s.live)
    (hv : t.cfgValid = s.cfgValid) (hf : t.cfgFw = s.cfgFw) (hr : t.serBusy = true → RequestOK t) : Invariant t where
  params := hp ▸ h.params
  trackLive := htr ▸ hl ▸ h.trackLive
  mapped := hv ▸ hf ▸ h.mapped
  request := hr

/-- The parameters, the masks and the profile stay, and no request is in flight. -/
theorem Invariant.ofIdle (h : Invariant s) (hb : t.serBusy = false) (hp : t.par = s.par) (htr : t.track = s.track)
    (hl : t.live = s.live) (hv : t.cfgValid = s.cfgValid) (hf : t.cfgFw = s.cfgFw) : Invariant t :=
  h.ofRequest hp htr hl hv hf fun hb' => absurd (hb.symm.trans hb') Bool.false_ne_true

theorem Invariant.completePacket (h : Invariant s) (hb : s.serBusy = false) (k : PacketKind) (p : Packet) :
    Invariant (completePacket k p s) := by
  rw [completePacket_frame]
  exact
    { params := h.params
      trackLive := decodeKind_trackLive k p { s with frCount := 0 } h.trackLive
      mapped := h.mapped
      request := fun hb' => absurd (hb.symm.trans hb') Bool.false_ne_true }

/-- The plan a request starts with has the request's shape (40 R121). -/
theorem Machine.Starts.planShape {r : Req} {plan : List SerStep} (hp : ParamsOK s.par) (h : Starts s r plan) :
    PlanShape (replyBytes r) plan := by
  cases h with
  | write g a v hv hg ha => exact hp.write g a v
  | read g a hv hg ha => exact hp.read g a
  | query g q hv hg => exact hp.query _ q
  | sliced q => exact hp.sliced q

/-- A request that needs a profile starts with one (40 R136). -/
theorem Machine.Starts.configured {r : Req} {plan : List SerStep} (h : Starts s r plan) :
    (∃ q, r = .slicedQuery q) ∨ s.cfgValid = true := by
  cases h with
  | write g a v hv hg ha => exact .inr hv
  | read g a hv hg ha => exact .inr hv
  | query g q hv hg => exact .inr hv
  | sliced q => exact .inl ⟨q, rfl⟩

theorem Invariant.startRequest (h : Invariant s) {r : Req} {plan : List SerStep} (hs : Starts s r plan) :
    Invariant (s.startRequest r plan) where
  params := h.params
  trackLive := h.trackLive
  mapped := h.mapped
  request _ :=
    { shape := hs.planShape h.params
      idx := List.length_pos_iff.mpr (planShape_ne_nil (hs.planShape h.params))
      replies := rfl
      attempt := ⟨BitVec.le_refl 1, .inr rfl⟩
      once := fun _ _ _ => rfl
      waitDue := nofun
      configured := hs.configured }

/-- An instruction run with no request in flight keeps the invariant. -/
theorem Invariant.effect (h : Invariant s) (hb : s.serBusy = false) (he : Effect s t) : Invariant t := by
  cases he with
  | reset => exact invariant_of_cleared h.params rfl nofun rfl
  | load fw s1 tp ymax hg => exact invariant_of_cleared h.params rfl (fun _ => hg) hb
  | unload fw hg => exact invariant_of_cleared h.params rfl nofun hb
  | unconfigured hv => exact h.ofIdle hb rfl rfl rfl rfl rfl
  | unsupported hv => exact h.ofIdle hb rfl rfl rfl rfl rfl
  | buffer b hg hc => exact h.ofIdle hb rfl rfl rfl rfl rfl
  | sixth b hg hc =>
    have hf : Invariant (s.putByte b).advanceFrame := h.ofIdle hb rfl rfl rfl rfl rfl
    exact hf.completePacket hb _ _
  | packet k p => exact h.completePacket hb k p
  | error e => exact h.ofIdle hb rfl rfl rfl rfl rfl
  | start r plan hs => exact h.startRequest hs

/-- The step's Transfer is issued and awaits its answer. -/
theorem RequestOK.issued (h : RequestOK s) (o : ChanOut) : RequestOK { s.sendChannel o with serPhase := .answer } :=
  { h with waitDue := nofun }

/-- The Wait before another attempt is made. -/
theorem RequestOK.waited (h : RequestOK s) (hp : s.serPhase = .wait) (o : ChanOut) :
    RequestOK { s.sendChannel o with serTry := s.serTry + 1, serPhase := .issue } := by
  obtain ⟨hlt, st, hst, hr⟩ := h.waitDue hp
  have hone := h.attempt.1
  refine { h with attempt := ⟨?_, .inl ?_⟩, once := fun st' hst' hr' => ?_, waitDue := nofun }
  · show (1 : Byte) ≤ s.serTry + 1
    bv_omega
  · show s.serTry + 1 ≤ s.par.nTries
    bv_omega
  · cases hst.symm.trans hst'
    exact absurd (hr.symm.trans hr') (by decide)

/-- A failed step that may be retried is due its Wait. -/
theorem RequestOK.retrying (h : RequestOK s) {st : SerStep} (hst : s.serPlan[s.serIdx]? = some st) (hr : st.retry = true)
    (ht : s.serTry < s.par.nTries) : RequestOK { s with serPhase := .wait } :=
  { h with waitDue := fun _ => ⟨ht, st, hst, hr⟩ }

/-- The step's reply is recorded and the next step begins at its first attempt. -/
theorem RequestOK.nextStep (h : RequestOK s) {st : SerStep} {r : List Byte} (hst : s.serPlan[s.serIdx]? = some st)
    (hr : r.length = st.n) (hlt : s.serIdx + 1 < s.serPlan.length) : RequestOK (s.nextStep r) where
  shape := h.shape
  idx := hlt
  replies := by
    show (s.serRep ++ [r]).map List.length = (s.serPlan.take (s.serIdx + 1)).map SerStep.n
    rw [List.take_add_one, hst, List.map_append, List.map_append, h.replies]
    simp [hr]
  attempt := ⟨BitVec.le_refl 1, .inr rfl⟩
  once := fun _ _ _ => rfl
  waitDue := nofun
  configured := h.configured

/-- A move of the serializer keeps the invariant. -/
theorem Invariant.serEffect (h : Invariant s) (hb : s.serBusy = true) (he : SerEffect s t) : Invariant t := by
  have hreq := h.request hb
  cases he with
  | issue st hp hst => exact h.ofRequest rfl rfl rfl rfl rfl fun _ => hreq.issued _
  | wait hp => exact h.ofRequest rfl rfl rfl rfl rfl fun _ => hreq.waited hp _
  | hold hp => exact h
  | advance st r hst hr hlt => exact h.ofRequest rfl rfl rfl rfl rfl fun _ => hreq.nextStep hst hr hlt
  | finish st r res hst hr hle hres => exact h.ofIdle rfl rfl rfl rfl rfl rfl
  | finishEmpty res hst hres => exact h.ofIdle rfl rfl rfl rfl rfl rfl
  | retry st hst hr ht => exact h.ofRequest rfl rfl rfl rfl rfl fun _ => hreq.retrying hst hr ht
  | fail st hst hf => exact h.ofIdle rfl rfl rfl rfl rfl rfl

theorem Invariant.stepEffect (h : Invariant s) (he : StepEffect s t) : Invariant t := by
  cases he with
  | still hb => exact h
  | turn ts hb => exact h.withQueues ts _ _ _
  | run ts ws t hb he => exact (h.withQueues ts ws _ _).effect hb he
  | mark ts ws hb => exact h.withQueues ts ws _ true
  | abandon ts hb hr => exact invariant_of_cleared h.params rfl nofun rfl
  | queue ts ws hb => exact h.withQueues ts ws _ _
  | late ts n hn => exact h.withQueues ts _ n _
  | serial ts t hb he => exact (h.withQueues ts _ _ _).serEffect hb he

end Effects

/-- Settles O52: each effect a step can have keeps the invariant. -/
theorem stepKeepsInvariant : Obligations.StepKeepsInvariant := fun _ _ h hs => h.stepEffect (step_effect hs)

/-! The ports (10 R35 to R38, 70 R312). -/

/-- The list of what a port has shown grows by at most one item. -/
def GrowsByOne {α : Type} (l m : List α) : Prop := m = l ∨ ∃ x, m = l ++ [x]

/-- The parameters stay and every port grows by at most one item. -/
structure PortsGrow (s t : State) : Prop where
  par : t.par = s.par
  evOut : GrowsByOne s.evOut t.evOut
  results : GrowsByOne s.results t.results
  chanOut : GrowsByOne s.chanOut t.chanOut

section Ports

variable {s t : State}

theorem portsGrow_completePacket (k : PacketKind) (p : Packet) (s : State) : PortsGrow s (completePacket k p s) := by
  rw [completePacket_frame]
  exact ⟨rfl, .inr ⟨_, rfl⟩, .inl rfl, .inl rfl⟩

theorem Machine.Effect.portsGrow (h : Effect s t) : PortsGrow s t := by
  cases h with
  | reset | unconfigured | unsupported | buffer | start => exact ⟨rfl, .inl rfl, .inl rfl, .inl rfl⟩
  | load | unload | error => exact ⟨rfl, .inl rfl, .inr ⟨_, rfl⟩, .inl rfl⟩
  | sixth b hg hc =>
    obtain ⟨hp, he, hr, hc⟩ := portsGrow_completePacket _ _ (s.putByte b).advanceFrame
    exact ⟨hp, he, hr, hc⟩
  | packet k p => exact portsGrow_completePacket k p s

theorem Machine.SerEffect.portsGrow (h : SerEffect s t) : PortsGrow s t := by
  cases h with
  | hold | advance | retry => exact ⟨rfl, .inl rfl, .inl rfl, .inl rfl⟩
  | issue | wait => exact ⟨rfl, .inl rfl, .inl rfl, .inr ⟨_, rfl⟩⟩
  | finish | finishEmpty | fail => exact ⟨rfl, .inl rfl, .inr ⟨_, rfl⟩, .inl rfl⟩

theorem Machine.StepEffect.portsGrow (h : StepEffect s t) : PortsGrow s t := by
  cases h with
  | still | turn | mark | abandon | queue | late => exact ⟨rfl, .inl rfl, .inl rfl, .inl rfl⟩
  | run ts ws t hb he => exact { he.portsGrow with }
  | serial ts t hb he => exact { he.portsGrow with }

end Ports

/-- Settles O56: each effect a step can have shows at most one item on each port. -/
theorem portsOnlyGrow : Obligations.PortsOnlyGrow := by
  intro s t h
  obtain ⟨hp, he, hr, hc⟩ := (step_effect h).portsGrow
  exact ⟨hp, he, hr, hc⟩

end Sys2Proof

/-! No output depends on an unspecified element (10 R43): every operation takes states that agree to states that agree. -/

namespace Sys2Proof

open Machine

/-! The turns, one equation for each kind of move (20 R72, 40 R122). -/

section Turns

variable {s : State}

theorem idleTurn_waiting {w : TxWord} {ws : List TxWord} (hw : s.waiting = w :: ws) :
    idleTurn s = accept w { s with waiting := ws } := by
  simp only [idleTurn, hw]

theorem idleTurn_end (hw : s.waiting = []) (ht : s.turns = []) : idleTurn s = .next s := by
  simp only [idleTurn, hw, ht]

theorem idleTurn_present {w : TxWord} {ts : List Turn} (hw : s.waiting = []) (ht : s.turns = .present w :: ts) :
    idleTurn s = accept w { s with turns := ts } := by
  simp only [idleTurn, hw, ht]

theorem idleTurn_block {ts : List Turn} (hw : s.waiting = []) (ht : s.turns = .block :: ts) :
    idleTurn s = .next { s with turns := ts } := by
  simp only [idleTurn, hw, ht]

theorem idleTurn_channel {a : ChanAnswer} {ts : List Turn} (hw : s.waiting = []) (ht : s.turns = .channel a :: ts) :
    idleTurn s = lateAnswer { s with turns := ts } := by
  simp only [idleTurn, hw, ht]

theorem idleTurn_late {a : ChanAnswer} {ts : List Turn} (hw : s.waiting = []) (ht : s.turns = .late a :: ts) :
    idleTurn s = lateAnswer { s with turns := ts } := by
  simp only [idleTurn, hw, ht]

theorem busyTurn_end (ht : s.turns = []) : busyTurn s = serMove s := by
  simp only [busyTurn, ht]

theorem busyTurn_block {ts : List Turn} (ht : s.turns = .block :: ts) : busyTurn s = serMove { s with turns := ts } := by
  simp only [busyTurn, ht]

theorem busyTurn_present {w : TxWord} {ts : List Turn} (ht : s.turns = .present w :: ts) :
    busyTurn s = presentBusy w { s with turns := ts } := by
  simp only [busyTurn, ht]

theorem busyTurn_late {a : ChanAnswer} {ts : List Turn} (ht : s.turns = .late a :: ts) :
    busyTurn s = lateAnswer { s with turns := ts } := by
  simp only [busyTurn, ht]

theorem busyTurn_channel {a : ChanAnswer} {ts : List Turn} (ht : s.turns = .channel a :: ts) :
    busyTurn s = if s.serPhase = .answer then serAnswer a { s with turns := ts } else serMove s := by
  simp only [busyTurn, ht]

end Turns

/-- The instructions a transaction word can carry (30 R80). -/
inductive IsTransaction : Instr → Prop where
  | reset : IsTransaction .reset
  | profileLoad (fw : Firmware) (s1 : Byte) (tp : Bool) (ymax : BitVec 16) : IsTransaction (.profileLoad fw s1 tp ymax)
  | byteIn (b : Byte) : IsTransaction (.byteIn b)
  | regWrite (addr val : Byte) : IsTransaction (.regWrite addr val)
  | regRead (addr : Byte) : IsTransaction (.regRead addr)
  | query (q : Byte) : IsTransaction (.query q)
  | slicedQuery (q : Byte) : IsTransaction (.slicedQuery q)

theorem decodeTx_isTransaction {w : TxWord} {i : Instr} (h : decodeTx w = .ok i) : IsTransaction i := by
  unfold decodeTx at h
  split_ifs at h <;> cases h <;> constructor

/-- Two branchings on equivalent conditions agree when their branches do. -/
theorem agreeOutcome_ite {p q : Prop} [Decidable p] [Decidable q] {a b c d : Host.Outcome State Fault Refusal} (hpq : p ↔ q)
    (ht : p → AgreeOutcome a c) (he : ¬ p → AgreeOutcome b d) :
    AgreeOutcome (if p then a else b) (if q then c else d) := by
  by_cases hp : p
  · rw [if_pos hp, if_pos (hpq.mp hp)]; exact ht hp
  · rw [if_neg hp, if_neg (mt hpq.mpr hp)]; exact he hp

section Agreement

variable {s t : State}

/-! What states that agree show. -/

theorem Agree.gen (h : Agree s t) : s.gen = t.gen := by
  unfold State.gen
  rw [← h.cfgValid]
  split
  · next hv => rw [(h.profile hv).1]
  · rfl

theorem Agree.checkMode (h : Agree s t) (hv : s.cfgValid = true) : s.checkMode = t.checkMode := by
  obtain ⟨hfw, hs1, -, -⟩ := h.profile hv
  unfold State.checkMode State.crcEnabled State.icVersion
  rw [hfw, hs1]

theorem Agree.pktMode (h : Agree s t) (hv : s.cfgValid = true) : s.pktMode = t.pktMode := by
  obtain ⟨-, -, htp, -⟩ := h.profile hv
  simp only [State.pktMode, htp, h.checkMode hv]

/-- Settles O55: the profile and what follows from it are shown only while a profile is loaded, and then they agree. -/
theorem statusPortShowsNoUnspecified : Obligations.StatusPortShowsNoUnspecified := by
  intro s t h
  have hcheck : (if s.gen = some .v4 then some s.checkMode else none) = if s.gen = some .v4 then some t.checkMode else none := by
    split
    · next hg => rw [h.checkMode (cfgValid_of_gen hg)]
    · rfl
  have hprofile : (if s.cfgValid then some (s.cfgFw, s.cfgS1, s.cfgTp, s.cfgYmax) else none) =
      if s.cfgValid then some (t.cfgFw, t.cfgS1, t.cfgTp, t.cfgYmax) else none := by
    split
    · next hv =>
      obtain ⟨hfw, hs1, htp, hy⟩ := h.profile hv
      rw [hfw, hs1, htp, hy]
    · rfl
  unfold State.status
  rw [hcheck, hprofile, h.fltUnconfigured, h.fltUnsupported, h.cfgValid, h.gen, h.serBusy]

/-! The operations. -/

theorem Agree.withTurns (h : Agree s t) (ts : List Turn) : Agree { s with turns := ts } { t with turns := ts } :=
  { h with turns := rfl }

theorem Agree.withWaiting (h : Agree s t) (ws : List TxWord) : Agree { s with waiting := ws } { t with waiting := ws } :=
  { h with waiting := rfl }

theorem Agree.withOwed (h : Agree s t) (n : Nat) : Agree { s with owed := n } { t with owed := n } :=
  { h with owed := rfl }

theorem Agree.refused (h : Agree s t) : Agree { s with refusedMark := true } { t with refusedMark := true } :=
  { h with refusedMark := rfl }

theorem Agree.emit (h : Agree s t) (o : PacketOutput) : Agree (s.emit o) (t.emit o) :=
  { h with evOut := congrArg (· ++ [o]) h.evOut }

theorem Agree.result (h : Agree s t) (r : Result) : Agree (s.result r) (t.result r) :=
  { h with results := congrArg (· ++ [r]) h.results }

theorem Agree.sendChannel (h : Agree s t) (o : ChanOut) : Agree (s.sendChannel o) (t.sendChannel o) :=
  { h with chanOut := congrArg (· ++ [o]) h.chanOut }

theorem Agree.faultUnconfigured (h : Agree s t) : Agree s.faultUnconfigured t.faultUnconfigured :=
  { h with fltUnconfigured := rfl }

theorem Agree.faultUnsupported (h : Agree s t) : Agree s.faultUnsupported t.faultUnsupported :=
  { h with fltUnsupported := rfl }

/-- RESET draws other free values for the two, all of them unspecified. -/
theorem Agree.afterReset (h : Agree s t) : Agree s.afterReset t.afterReset :=
  { h with
    fltUnconfigured := rfl
    fltUnsupported := rfl
    cfgValid := rfl
    profile := nofun
    live := rfl
    track := rfl
    slots := fun i hi => by simp at hi
    frCount := rfl
    frBuf := fun i hi => absurd hi (Fin.not_lt_zero i)
    serBusy := rfl
    request := nofun
    owed := by
      rw [State.afterReset_owed, State.afterReset_owed, ← h.serBusy, ← h.owed]
      by_cases hb : s.serBusy = true
      · obtain ⟨-, -, -, -, -, hph⟩ := h.request hb
        rw [hph]
      · simp [hb] }

/-- The state PROFILE_LOAD works on: no slot live, no byte received (41 R165). -/
theorem Agree.clearFrame (h : Agree s t) : Agree { s.clearMasks with frCount := 0 } { t.clearMasks with frCount := 0 } :=
  { h with
    live := rfl
    track := rfl
    slots := fun i hi => by simp at hi
    frCount := rfl
    frBuf := fun i hi => absurd hi (Fin.not_lt_zero i) }

theorem Agree.unload (h : Agree s t) : Agree { s with cfgValid := false } { t with cfgValid := false } :=
  { h with cfgValid := rfl, profile := nofun }

theorem Agree.load (h : Agree s t) (fw : Firmware) (s1 : Byte) (tp : Bool) (ymax : BitVec 16) :
    Agree { s with cfgFw := fw, cfgS1 := s1, cfgTp := tp, cfgYmax := ymax, cfgValid := true }
      { t with cfgFw := fw, cfgS1 := s1, cfgTp := tp, cfgYmax := ymax, cfgValid := true } :=
  { h with cfgValid := rfl, profile := fun _ => ⟨rfl, rfl, rfl, rfl⟩ }

theorem Agree.startRequest (h : Agree s t) (r : Req) (plan : List SerStep) :
    Agree (s.startRequest r plan) (t.startRequest r plan) :=
  { h with serBusy := rfl, request := fun _ => ⟨rfl, rfl, rfl, rfl, rfl, rfl⟩ }

theorem Agree.endRequest (h : Agree s t) (r : Result) : Agree (s.endRequest r) (t.endRequest r) :=
  { h with serBusy := rfl, request := nofun, results := congrArg (· ++ [r]) h.results }

/-! The frame buffer (42 R200). -/

/-- A byte stored and counted is the same byte in both, and the bytes before it agree. -/
theorem Agree.frame (h : Agree s t) (b : Byte) : Agree (s.putByte b).advanceFrame (t.putByte b).advanceFrame :=
  { h with
    frCount := congrArg (· + 1) h.frCount
    frBuf := fun i hi => by
      have hlt : i.val < (s.frCount.val + 1) % 6 := hi
      show (s.frBuf.set s.frCount.val b)[i.val] = (t.frBuf.set t.frCount.val b)[i.val]
      rw [Vector.getElem_set, Vector.getElem_set, ← h.frCount]
      split
      · rfl
      · exact h.frBuf i (by omega) }

/-- The six bytes of a packet agree once the last one is stored. -/
theorem Agree.packet (h : Agree s t) (hc : ¬ s.frCount.val < 5) (b : Byte) : (s.putByte b).frBuf = (t.putByte b).frBuf := by
  rw [State.putByte_frBuf, State.putByte_frBuf]
  apply Vector.ext
  intro i hi
  rw [Vector.getElem_set, Vector.getElem_set, ← h.frCount]
  split
  · rfl
  · exact h.frBuf ⟨i, hi⟩ (Fin.lt_def.mpr (by dsimp only; omega))

/-! The slots (43 R231 to R233). -/

theorem Agree.setSlot (h : Agree s t) (i : Slot) (x y : Coord) : Agree (s.setSlot i x y) (t.setSlot i x y) :=
  { h with
    slots := fun j hj => by
      obtain ⟨hx, hy⟩ := h.slots j hj
      simp only [State.setSlot_slotX, State.setSlot_slotY, Fin.getElem_fin] at hx hy ⊢
      rw [Vector.getElem_set, Vector.getElem_set, Vector.getElem_set, Vector.getElem_set, hx, hy]
      exact ⟨rfl, rfl⟩ }

/-- A slot whose coordinates agree may begin to track. -/
theorem Agree.markSlot (h : Agree s t) (i : Slot) (hi : s.slotX[i] = t.slotX[i] ∧ s.slotY[i] = t.slotY[i]) :
    Agree (s.markSlot i) (t.markSlot i) :=
  { h with
    live := congrArg (· ||| slotBit i) h.live
    track := congrArg (· ||| slotBit i) h.track
    slots := fun j hj => by
      rw [State.markSlot_track, BitVec.getLsbD_or, Bool.or_eq_true, slotBit_getLsbD, decide_eq_true_eq] at hj
      rcases hj with hj | hj
      · exact h.slots j hj
      · exact Fin.ext hj ▸ hi }

theorem Agree.statusMasks (h : Agree s t) (m : Mask) : Agree (s.statusMasks m) (t.statusMasks m) :=
  { h with
    live := rfl
    track := congrArg (· &&& m) h.track
    slots := fun j hj => h.slots j (by
      rw [State.statusMasks_track, BitVec.getLsbD_and, Bool.and_eq_true] at hj
      exact hj.1) }

/-- Apply reads the coordinates of a tracking slot only. -/
theorem Agree.applyDelta (h : Agree s t) (w : Coord) (i : Slot) (dx dy : Coord) :
    Agree (applyDelta w i dx dy s).1 (applyDelta w i dx dy t).1 ∧
      (Machine.applyDelta w i dx dy s).2 = (Machine.applyDelta w i dx dy t).2 := by
  unfold Machine.applyDelta
  rw [← h.track]
  split
  · next hi =>
    obtain ⟨hx, hy⟩ := h.slots i hi
    rw [hx, hy]
    exact ⟨h.setSlot i _ _, rfl⟩
  · exact ⟨h, rfl⟩

theorem Agree.applyDelta? (h : Agree s t) (w : Coord) (i : Option Slot) (dx dy : Coord) :
    Agree (applyDelta? w i dx dy s).1 (applyDelta? w i dx dy t).1 ∧
      (Machine.applyDelta? w i dx dy s).2 = (Machine.applyDelta? w i dx dy t).2 := by
  cases i with
  | none => exact ⟨h, rfl⟩
  | some i => exact h.applyDelta w i dx dy

theorem Agree.decodeHead (h : Agree s t) (hy : s.cfgYmax = t.cfgYmax) (p : Packet) :
    Agree (decodeHead p s).1 (decodeHead p t).1 ∧ (Machine.decodeHead p s).2 = (Machine.decodeHead p t).2 := by
  rcases head_cases p with hp | ⟨i, hp⟩
  · rw [decodeHead_dropped s hp, decodeHead_dropped t hp]
    exact ⟨h, rfl⟩
  · rw [decodeHead_valid s hp, decodeHead_valid t hp, ← hy, ← h.live]
    exact ⟨(h.setSlot i _ _).markSlot i (by simp), rfl⟩

theorem Agree.decodeMotion (h : Agree s t) (p : Packet) :
    Agree (decodeMotion p s).1 (decodeMotion p t).1 ∧ (Machine.decodeMotion p s).2 = (Machine.decodeMotion p t).2 := by
  rcases motion_cases p with hp | ⟨i, hp, h3⟩
  · rw [decodeMotion_dropped s hp, decodeMotion_dropped t hp]
    exact ⟨h, rfl⟩
  · rw [decodeMotion_valid s hp h3, decodeMotion_valid t hp h3, ← h.par, ← h.live]
    obtain ⟨h1, e1⟩ := h.applyDelta (motionWeight s.par.weight p) i (delta p[1]) (delta p[2])
    obtain ⟨h2, e2⟩ := h1.applyDelta? (motionWeight s.par.weight p) (slotOfId (sid (slotField3 p))) (delta p[4]) (delta p[5])
    exact ⟨h2, by dsimp only; rw [e1, e2]⟩

/-- A decode reads `cfg_ymax`, the masks and the tracking slots. -/
theorem Agree.decodeKind (h : Agree s t) (hy : s.cfgYmax = t.cfgYmax) (k : PacketKind) (p : Packet) :
    Agree (decodeKind k p s).1 (decodeKind k p t).1 ∧ (Machine.decodeKind k p s).2 = (Machine.decodeKind k p t).2 := by
  cases k with
  | unknown => exact ⟨h, rfl⟩
  | trackPoint => exact ⟨h, rfl⟩
  | status => exact ⟨h.statusMasks (statusMask p), by simp only [Machine.decodeKind, decodeStatus, h.live]⟩
  | head => exact h.decodeHead hy p
  | motion => exact h.decodeMotion p

theorem Agree.completePacket (h : Agree s t) (hv : s.cfgValid = true) (k : PacketKind) (p : Packet) :
    Agree (completePacket k p s) (completePacket k p t) := by
  have h0 : Agree { s with frCount := 0 } { t with frCount := 0 } :=
    { h with frCount := rfl, frBuf := fun i hi => absurd hi (Fin.not_lt_zero i) }
  obtain ⟨-, -, -, hy⟩ := h.profile hv
  obtain ⟨hd, he⟩ := h0.decodeKind hy k p
  unfold Machine.completePacket
  dsimp only
  rw [he]
  exact hd.emit _

/-! The instructions of transaction words. -/

theorem Agree.execByteIn (h : Agree s t) (b : Byte) : AgreeOutcome (execByteIn b s) (execByteIn b t) := by
  rcases byteIn_cases s with hv | ⟨hv, hg⟩ | ⟨hg, hc⟩ | ⟨hg, hc⟩
  · rw [execByteIn_unconfigured b hv, execByteIn_unconfigured b (h.cfgValid ▸ hv)]
    exact h.faultUnconfigured
  · rw [execByteIn_unsupported b hv hg, execByteIn_unsupported b (h.cfgValid ▸ hv) (h.gen ▸ hg)]
    exact h.faultUnsupported
  · rw [execByteIn_buffer b hg hc, execByteIn_buffer b (h.gen ▸ hg) (h.frCount ▸ hc)]
    exact h.frame b
  · rw [execByteIn_sixth b hg hc, execByteIn_sixth b (h.gen ▸ hg) (h.frCount ▸ hc), ← h.packet hc b,
      ← h.pktMode (cfgValid_of_gen hg)]
    exact (h.frame b).completePacket (cfgValid_of_gen hg) _ _

theorem Agree.execProfileLoad (h : Agree s t) (fw : Firmware) (s1 : Byte) (tp : Bool) (ymax : BitVec 16) :
    AgreeOutcome (execProfileLoad fw s1 tp ymax s) (execProfileLoad fw s1 tp ymax t) := by
  unfold Machine.execProfileLoad
  cases genOf fw with
  | none => exact h.clearFrame.unload.result _
  | some g => exact (h.clearFrame.load fw s1 tp ymax).result _

theorem Agree.startConfigured (h : Agree s t) (r : Req) (plan : Gen → List SerStep) :
    AgreeOutcome (startConfigured r plan s) (startConfigured r plan t) := by
  unfold Machine.startConfigured
  rw [← h.cfgValid]
  split
  · next hv =>
    rw [← (h.profile hv).1]
    cases genOf s.cfgFw with
    | none => rfl
    | some g => exact h.startRequest r (plan g)
  · exact h.result _

theorem Agree.exec (h : Agree s t) {i : Instr} (hi : IsTransaction i) : AgreeOutcome (exec i s) (exec i t) := by
  cases hi with
  | reset => exact h.afterReset
  | profileLoad fw s1 tp ymax => exact h.execProfileLoad fw s1 tp ymax
  | byteIn b => exact h.execByteIn b
  | regWrite a v =>
    simp only [Machine.exec, execRegWrite, ← h.par]
    split
    · exact h.startConfigured _ _
    · exact h.result _
  | regRead a =>
    simp only [Machine.exec, execRegRead, ← h.par]
    split
    · exact h.startConfigured _ _
    · exact h.result _
  | query q =>
    simp only [Machine.exec, execQuery, ← h.par]
    exact h.startConfigured _ _
  | slicedQuery q =>
    simp only [Machine.exec, execSlicedQuery, ← h.par]
    exact h.startRequest _ _

theorem Agree.accept (h : Agree s t) (w : TxWord) : AgreeOutcome (accept w s) (accept w t) := by
  unfold Machine.accept
  cases hw : decodeTx w with
  | ok i => exact h.exec (decodeTx_isTransaction hw)
  | error e => exact h.refused

/-! The serializer's moves, with a request in flight. -/

theorem Agree.finishRequest (h : Agree s t) (hb : s.serBusy = true) : AgreeOutcome (finishRequest s) (finishRequest t) := by
  obtain ⟨-, -, -, hrep, hreq, -⟩ := h.request hb
  unfold Machine.finishRequest
  rw [← h.gen, ← hreq, ← hrep]
  cases requestResult s.gen s.serReq s.serRep with
  | none => rfl
  | some r => exact h.endRequest r

theorem Agree.stepDone (h : Agree s t) (hb : s.serBusy = true) (r : List Byte) : AgreeOutcome (stepDone s r) (stepDone t r) := by
  obtain ⟨hplan, hidx, -, hrep, hreq, -⟩ := h.request hb
  have hn : Agree (s.nextStep r) (t.nextStep r) :=
    { h with request := fun _ => ⟨hplan, congrArg (· + 1) hidx, rfl, congrArg (· ++ [r]) hrep, hreq, rfl⟩ }
  exact agreeOutcome_ite (by rw [hplan, hidx]) (fun _ => hn) fun _ => hn.finishRequest hb

theorem Agree.stepFailed (h : Agree s t) (hb : s.serBusy = true) (st : SerStep) :
    AgreeOutcome (stepFailed s st) (stepFailed t st) := by
  obtain ⟨hplan, hidx, htry, hrep, hreq, -⟩ := h.request hb
  refine agreeOutcome_ite (by rw [htry, h.par])
    (fun _ => { h with request := fun _ => ⟨hplan, hidx, htry, hrep, hreq, rfl⟩ }) fun _ => ?_
  rw [hidx, htry]
  exact h.endRequest _

theorem Agree.serMove (h : Agree s t) (hb : s.serBusy = true) : AgreeOutcome (serMove s) (serMove t) := by
  obtain ⟨hplan, hidx, htry, hrep, hreq, hph⟩ := h.request hb
  unfold Machine.serMove
  rw [← hph]
  cases s.serPhase with
  | issue =>
    dsimp only
    rw [← hplan, ← hidx]
    cases s.serPlan[s.serIdx]? with
    | none => exact h.finishRequest hb
    | some st =>
      exact { h.sendChannel (.transfer st.cmds st.n) with request := fun _ => ⟨hplan, hidx, htry, hrep, hreq, rfl⟩ }
  | wait =>
    dsimp only
    rw [← h.par]
    exact { h.sendChannel (.wait s.par.retryDelay) with
      request := fun _ => ⟨hplan, hidx, congrArg (· + 1) htry, hrep, hreq, rfl⟩ }
  | answer => exact h

theorem Agree.serAnswer (h : Agree s t) (hb : s.serBusy = true) (a : ChanAnswer) :
    AgreeOutcome (serAnswer a s) (serAnswer a t) := by
  obtain ⟨hplan, hidx, -⟩ := h.request hb
  unfold Machine.serAnswer
  rw [← hplan, ← hidx]
  cases s.serPlan[s.serIdx]? with
  | none => rfl
  | some st =>
    dsimp only
    cases transferReply st.n a with
    | none => exact h.stepFailed hb st
    | some r => exact h.stepDone hb r

/-! The turns. -/

theorem Agree.lateAnswer (h : Agree s t) : AgreeOutcome (lateAnswer s) (lateAnswer t) := by
  cases hn : s.owed with
  | zero =>
    rw [lateAnswer_stray hn, lateAnswer_stray (h.owed ▸ hn)]
    rfl
  | succ n =>
    rw [lateAnswer_owed hn, lateAnswer_owed (h.owed ▸ hn)]
    exact h.withOwed n

theorem Agree.presentBusy (h : Agree s t) (w : TxWord) : AgreeOutcome (presentBusy w s) (presentBusy w t) := by
  unfold Machine.presentBusy
  rw [← h.waiting]
  split
  · exact h.afterReset
  · exact h.withWaiting _

theorem Agree.busyTurn (h : Agree s t) (hb : s.serBusy = true) : AgreeOutcome (busyTurn s) (busyTurn t) := by
  rcases ht : s.turns with _ | ⟨turn, ts⟩
  · rw [busyTurn_end ht, busyTurn_end (h.turns ▸ ht)]
    exact h.serMove hb
  · cases turn with
    | block =>
      rw [busyTurn_block ht, busyTurn_block (h.turns ▸ ht)]
      exact (h.withTurns ts).serMove hb
    | present w =>
      rw [busyTurn_present ht, busyTurn_present (h.turns ▸ ht)]
      exact (h.withTurns ts).presentBusy w
    | late a =>
      rw [busyTurn_late ht, busyTurn_late (h.turns ▸ ht)]
      exact (h.withTurns ts).lateAnswer
    | channel a =>
      obtain ⟨-, -, -, -, -, hph⟩ := h.request hb
      rw [busyTurn_channel ht, busyTurn_channel (h.turns ▸ ht)]
      exact agreeOutcome_ite (by rw [hph]) (fun _ => (h.withTurns ts).serAnswer hb a) fun _ => h.serMove hb

theorem Agree.idleTurn (h : Agree s t) : AgreeOutcome (idleTurn s) (idleTurn t) := by
  rcases hw : s.waiting with _ | ⟨w, ws⟩
  · have hw' : t.waiting = [] := h.waiting ▸ hw
    rcases ht : s.turns with _ | ⟨turn, ts⟩
    · rw [idleTurn_end hw ht, idleTurn_end hw' (h.turns ▸ ht)]
      exact h
    · cases turn with
      | block =>
        rw [idleTurn_block hw ht, idleTurn_block hw' (h.turns ▸ ht)]
        exact h.withTurns ts
      | present w =>
        rw [idleTurn_present hw ht, idleTurn_present hw' (h.turns ▸ ht)]
        exact (h.withTurns ts).accept w
      | late a =>
        rw [idleTurn_late hw ht, idleTurn_late hw' (h.turns ▸ ht)]
        exact (h.withTurns ts).lateAnswer
      | channel a =>
        rw [idleTurn_channel hw ht, idleTurn_channel hw' (h.turns ▸ ht)]
        exact (h.withTurns ts).lateAnswer
  · rw [idleTurn_waiting hw, idleTurn_waiting (h.waiting ▸ hw)]
    exact (h.withWaiting ws).accept w

end Agreement

/-- Settles O54: each turn, idle or busy, takes states that agree to outcomes that agree. -/
theorem unspecifiedElementsAreUnobserved : Obligations.UnspecifiedElementsAreUnobserved := by
  intro s t h
  unfold step turnStep
  rw [← h.serBusy]
  split
  · next hb => exact h.busyTurn hb
  · exact h.idleTurn

end Sys2Proof

/-! Memory (20_memory.md): the order in which words are taken, the sliced encoding, and the framing of a byte stream. -/

namespace Sys2Proof

open Machine

/-! The step on a word (20 R72). -/

section Words

variable {s : State} {w : TxWord}

theorem step_idle (hb : s.serBusy = false) : step s = idleTurn s := by
  simp [step, turnStep, hb]

theorem step_busy (hb : s.serBusy = true) : step s = busyTurn s := by
  simp [step, turnStep, hb]

theorem accept_ok {i : Instr} (hw : decodeTx w = .ok i) : accept w s = exec i s := by
  simp only [accept, hw]

theorem presentBusy_reset (hw : decodeTx w = .ok .reset) : presentBusy w s = exec .reset s := by
  simp only [presentBusy, hw]

theorem presentBusy_waits (hw : decodeTx w ≠ .ok .reset) :
    presentBusy w s = .next { s with waiting := s.waiting ++ [w] } := by
  unfold presentBusy
  split
  · contradiction
  · rfl

theorem step_presents {more : List Turn} (h : Presents s w more) : step s = accept w { s with turns := more } := by
  obtain ⟨hb, hw, ht⟩ := h
  rw [step_idle hb, idleTurn_present hw ht]

end Words

/-- Settles O7: the idle turn accepts the word, waiting or presented; the busy turn accepts a RESET. -/
theorem stepRunsDecodedInstruction : Obligations.StepRunsDecodedInstruction := by
  refine ⟨fun s w more i hp hi => ?_, fun s w ws i hb hw hi => ?_, fun s w more hb ht hi => ?_⟩
  · rw [step_presents hp, accept_ok hi]
  · rw [step_idle hb, idleTurn_waiting hw, accept_ok hi]
  · rw [step_busy hb, busyTurn_present ht, presentBusy_reset hi]

/-- Settles O9: the busy turn puts any word but a RESET behind the waiting ones. -/
theorem wordsWaitForTheRequest : Obligations.WordsWaitForTheRequest := by
  intro s w more hb ht hw
  rw [step_busy hb, busyTurn_present ht, presentBusy_waits hw]

/-! The sliced encoding (30 R96, 20 R63). -/

/-- The two bits of a byte from bit `n` on, as the byte that goes on the wire. -/
theorem chunk_toNat (b : Byte) (n : Nat) : ((b.extractLsb' n 2).setWidth 8).toNat = b.toNat / 2 ^ n % 4 := by
  rw [BitVec.toNat_setWidth_of_le (by decide), BitVec.extractLsb'_toNat, Nat.shiftRight_eq_div_pow]

/-- Settles O36: the chunks of Slice are the digits of the byte in base 4. -/
theorem sliceIsBaseFourDigits : Obligations.SliceIsBaseFourDigits := by
  intro par b
  refine ⟨_, _, _, _, rfl, ?_⟩
  have hb := b.isLt
  simp only [chunk_toNat]
  omega

/-! BYTE_IN over a stream of bytes (20 R66, 42 R200 to R202): the records and the frame buffer together hold every byte. -/

theorem decodeTx_byteWord (b : Byte) : decodeTx (byteWord b) = .ok (.byteIn b) := by
  have htag : (byteWord b).tag = 2#4 := by
    rw [TxWord.tag, byteWord, BitVec.extractLsb'_append_eq_of_le (by decide)]
    decide
  have hzero : (byteWord b).extractLsb' 8 52 = 0#52 := by
    rw [byteWord, BitVec.extractLsb'_append_eq_of_le (by decide)]
    decide
  have hbyte : (byteWord b).extractLsb' 0 8 = b := BitVec.extractLsb'_append_eq_right
  simp [decodeTx, htag, hzero, hbyte]

/-- The bytes of the packet under way, in arrival order. -/
def Machine.State.partialPacket (s : State) : List Byte := s.frBuf.toList.take s.frCount.val

/-- The raw bytes of some records, in arrival order. -/
def rawBytes (os : List PacketOutput) : List Byte := os.flatMap fun o => o.raw.toList

/-- The bytes `bs` take `s` to `t`: the bytes of the packet under way and then `bs` are what the new records and the packet now
under way hold. -/
structure Frames (s : State) (bs : List Byte) (t : State) : Prop where
  gen : t.gen = s.gen
  serBusy : t.serBusy = s.serBusy
  waiting : t.waiting = s.waiting
  bytes : ∃ os, t.evOut = s.evOut ++ os ∧ s.partialPacket ++ bs = rawBytes os ++ t.partialPacket

section Stream

variable {s t u : State}

@[simp] theorem rawBytes_nil : rawBytes [] = [] := rfl

@[simp] theorem rawBytes_cons (o : PacketOutput) (os : List PacketOutput) :
    rawBytes (o :: os) = o.raw.toList ++ rawBytes os := rfl

theorem rawBytes_append (os os' : List PacketOutput) : rawBytes (os ++ os') = rawBytes os ++ rawBytes os' :=
  List.flatMap_append

theorem rawBytes_length (os : List PacketOutput) : (rawBytes os).length = 6 * os.length := by
  induction os with
  | nil => rfl
  | cons o os ih => simp [ih]; omega

/-- Byte j of record k is byte 6k + j of the records' bytes. -/
theorem rawBytes_getElem? (os : List PacketOutput) {k : Nat} (hk : k < os.length) (j : Fin 6) :
    (rawBytes os)[6 * k + j.val]? = some os[k].raw[j] := by
  induction os generalizing k with
  | nil => cases hk
  | cons o os ih =>
    cases k with
    | zero => simp [List.getElem?_append_left]
    | succ k =>
      have hi : 6 * (k + 1) + j.val = o.raw.toList.length + (6 * k + j.val) := by rw [Vector.length_toList]; omega
      rw [rawBytes_cons, hi, List.getElem?_append_right (Nat.le_add_right _ _), Nat.add_sub_cancel_left]
      exact ih (Nat.lt_of_succ_lt_succ hk)

theorem partialPacket_length (s : State) : s.partialPacket.length = s.frCount.val := by
  simp [Machine.State.partialPacket]

theorem partialPacket_eq_nil (h : s.frCount = 0) : s.partialPacket = [] := by
  simp [Machine.State.partialPacket, h]

/-- A byte written at the frame counter follows the bytes of the packet under way. -/
theorem take_putByte (s : State) (b : Byte) :
    (s.putByte b).frBuf.toList.take (s.frCount.val + 1) = s.partialPacket ++ [b] := by
  simp [List.take_add_one, Machine.State.partialPacket, Vector.toList_set, List.take_set_of_le]

theorem Frames.refl (s : State) : Frames s [] s := ⟨rfl, rfl, rfl, [], by simp⟩

theorem Frames.trans {bs bs' : List Byte} (h : Frames s bs t) (h' : Frames t bs' u) : Frames s (bs ++ bs') u := by
  obtain ⟨os, he, hb⟩ := h.bytes
  obtain ⟨os', he', hb'⟩ := h'.bytes
  refine ⟨h'.gen.trans h.gen, h'.serBusy.trans h.serBusy, h'.waiting.trans h.waiting, os ++ os', ?_, ?_⟩
  · rw [he', he, List.append_assoc]
  · rw [← List.append_assoc, hb, List.append_assoc, hb', rawBytes_append, List.append_assoc]

/-- BYTE_IN under a V4 profile loses no byte, whether it completes a packet or not. -/
theorem execByteIn_frames (b : Byte) (hg : s.gen = some .v4) :
    ∃ t, execByteIn b s = .next t ∧ t.turns = s.turns ∧ Frames s [b] t := by
  by_cases hc : s.frCount.val < 5
  · refine ⟨_, execByteIn_buffer b hg hc, rfl, rfl, rfl, rfl, [], (List.append_nil _).symm, ?_⟩
    have hn : (s.frCount + 1).val = s.frCount.val + 1 := by simp [Fin.val_add]; omega
    rw [← take_putByte, rawBytes_nil, List.nil_append, Machine.State.partialPacket, State.advanceFrame_frCount,
      State.putByte_frCount, hn, State.advanceFrame_frBuf]
  · refine ⟨_, execByteIn_sixth b hg hc, ?_⟩
    have h5 : s.frCount.val + 1 = 6 := by omega
    rw [completePacket_frame]
    refine ⟨rfl, rfl, rfl, rfl, _, rfl, ?_⟩
    rw [← take_putByte, h5, partialPacket_eq_nil rfl]
    simp

theorem run_succ {M : Host.Core} {n : Nat} {s t : M.State} (h : M.step s = .next t) : M.run (n + 1) s = M.run n t := by
  simp only [Host.Core.run, h]

/-- A stream of bytes presented to an idle block under a V4 profile runs to its end. -/
theorem run_byteStream (bs : List Byte) {more : List Turn} (hg : s.gen = some .v4) (hb : s.serBusy = false)
    (hw : s.waiting = []) (ht : s.turns = bs.map (fun b => Turn.present (byteWord b)) ++ more) :
    ∃ t : State, Host.Core.run core bs.length s = .next t ∧ t.turns = more ∧ Frames s bs t := by
  induction bs generalizing s with
  | nil => exact ⟨s, rfl, ht, .refl s⟩
  | cons b bs ih =>
    obtain ⟨u, hu, htu, hf⟩ :=
      execByteIn_frames (s := { s with turns := bs.map (fun b => Turn.present (byteWord b)) ++ more }) b hg
    have hstep : core.step s = .next u := by
      show step s = _
      rw [step_presents ⟨hb, hw, ht⟩, accept_ok (decodeTx_byteWord b)]
      exact hu
    obtain ⟨t, hr, hm, hf'⟩ := ih (hf.gen.trans hg) (hf.serBusy.trans hb) (hf.waiting.trans hw) htu
    refine ⟨t, ?_, hm, ?_⟩
    · rw [List.length_cons, run_succ hstep]
      exact hr
    · exact Frames.trans (bs := [b]) ⟨hf.gen, hf.serBusy, hf.waiting, hf.bytes⟩ hf'

end Stream

/-- Settles O21: the records hold the stream six bytes each and the frame buffer its rest, by induction on the stream. -/
theorem framingOfByteStream : Obligations.FramingOfByteStream := by
  intro bs s more hg hc hb hw ht
  obtain ⟨t, hr, hm, hf⟩ := run_byteStream bs hg hb hw ht
  obtain ⟨os, he, hbs⟩ := hf.bytes
  rw [partialPacket_eq_nil hc, List.nil_append] at hbs
  have hlen : bs.length = 6 * os.length + t.frCount.val := by
    rw [hbs, List.length_append, rawBytes_length, partialPacket_length]
  have hos : os.length = bs.length / 6 := by omega
  refine ⟨t, hr, hm, by omega, by rw [he, List.length_append, hos], fun k hk => ?_, fun k hk => ?_⟩
  · rw [he, List.getElem?_append_left hk]
  · rw [← hos] at hk
    refine ⟨os[k], by rw [he, List.getElem?_append_right (by omega)]; simp [hk], fun j => ?_⟩
    rw [hbs, List.getElem?_append_left (by rw [rawBytes_length]; omega), rawBytes_getElem? os hk]

end Sys2Proof

/-! Encoding (30_encoding.md): transaction words field by field, packet rows by their header bytes, and what the packet rows do
with the fields they read. -/

namespace Sys2Proof

open Machine

/-! The fields of a word (30 R80): a word is a concatenation exactly when each field is the stretch of the word under it. -/

theorem extract_eq_append_iff (v w : Nat) {n k : Nat} {x : BitVec n} {a : BitVec v} {b : BitVec w} :
    x.extractLsb' k (v + w) = a ++ b ↔ x.extractLsb' (k + w) v = a ∧ x.extractLsb' k w = b := by
  rw [← extract_append_extract, append_eq_append_iff]

theorem eq_append_iff (v w : Nat) {x : BitVec (v + w)} {a : BitVec v} {b : BitVec w} :
    x = a ++ b ↔ x.extractLsb' w v = a ∧ x.extractLsb' 0 w = b := by
  have h := extract_eq_append_iff v w (k := 0) (x := x) (a := a) (b := b)
  rwa [BitVec.extractLsb'_eq_self, Nat.zero_add] at h

section Forms

variable {t : TxWord} {tag : BitVec 4}

/-- RESET: a tag and 60 bits. -/
theorem eq_tag_append_iff {z : BitVec 60} : t = tag ++ z ↔ t.tag = tag ∧ t.extractLsb' 0 60 = z :=
  eq_append_iff 4 60

/-- BYTE_IN, QUERY and SLICED_QUERY: a tag, 52 bits and a byte. -/
theorem eq_tag_byte_iff {z : BitVec 52} {b : Byte} :
    t = tag ++ z ++ b ↔ t.tag = tag ∧ t.extractLsb' 8 52 = z ∧ t.extractLsb' 0 8 = b :=
  (eq_append_iff 56 8).trans <| by
    rw [extract_eq_append_iff 4 52]
    simp only [and_assoc, TxWord.tag]

/-- REG_WRITE and REG_READ: a tag, 44 bits and two bytes. -/
theorem eq_tag_bytes_iff {z : BitVec 44} {a b : Byte} :
    t = tag ++ z ++ a ++ b ↔
      t.tag = tag ∧ t.extractLsb' 16 44 = z ∧ t.extractLsb' 8 8 = a ∧ t.extractLsb' 0 8 = b :=
  (eq_append_iff 56 8).trans <| by
    rw [extract_eq_append_iff 48 8, extract_eq_append_iff 4 44]
    simp only [and_assoc, TxWord.tag]

/-- PROFILE_LOAD: the tag, 4 bits, the firmware, the sample byte, 7 bits, the trackpoint flag and y_max. -/
theorem eq_profile_iff {z : BitVec 4} {fw : Firmware} {s1 : Byte} {z' : BitVec 7} {tp : BitVec 1} {ymax : BitVec 16} :
    t = tag ++ z ++ fw ++ s1 ++ z' ++ tp ++ ymax ↔
      t.tag = tag ∧ t.extractLsb' 56 4 = z ∧ t.extractLsb' 32 24 = fw ∧ t.extractLsb' 24 8 = s1 ∧
        t.extractLsb' 17 7 = z' ∧ t.extractLsb' 16 1 = tp ∧ t.extractLsb' 0 16 = ymax :=
  (eq_append_iff 48 16).trans <| by
    rw [extract_eq_append_iff 47 1, extract_eq_append_iff 40 7, extract_eq_append_iff 32 8, extract_eq_append_iff 8 24,
      extract_eq_append_iff 4 4]
    simp only [and_assoc, TxWord.tag]

end Forms

theorem extract_one_eq_ofBool_iff {n k : Nat} {x : BitVec n} {b : Bool} :
    x.extractLsb' k 1 = BitVec.ofBool b ↔ x.getLsbD k = b := by
  constructor
  · intro h
    simpa using congrArg (·.getLsbD 0) h
  · rintro rfl
    apply BitVec.eq_of_getLsbD_eq
    intro i hi
    obtain rfl : i = 0 := by omega
    simp

/-- What a transaction word decodes to is the instruction it is the word of (30 R80). -/
theorem decodeTx_eq_ok_iff {t : TxWord} {i : Instr} : decodeTx t = .ok i ↔ encode i = .tx t := by
  constructor
  · intro h
    unfold decodeTx at h
    split_ifs at h <;> cases h <;> refine congrArg Encoded.tx (Eq.symm ?_)
    · next htag hz => exact eq_tag_append_iff.mpr ⟨htag, hz⟩
    · next _ htag hz =>
      exact eq_profile_iff.mpr ⟨htag, hz.1, rfl, rfl, hz.2, extract_one_eq_ofBool_iff.mpr rfl, rfl⟩
    · next htag hz => exact eq_tag_byte_iff.mpr ⟨htag, hz, rfl⟩
    · next htag hz => exact eq_tag_bytes_iff.mpr ⟨htag, hz, rfl, rfl⟩
    · next htag hz => exact eq_tag_bytes_iff.mpr ⟨htag, hz.1, rfl, hz.2⟩
    · next htag hz => exact eq_tag_byte_iff.mpr ⟨htag, hz, rfl⟩
    · next htag hz => exact eq_tag_byte_iff.mpr ⟨htag, hz, rfl⟩
  · intro h
    cases i with
    | reset =>
      obtain ⟨htag, hz⟩ := eq_tag_append_iff.mp (Encoded.tx.inj h).symm
      simp [decodeTx, htag, hz]
    | profileLoad fw s1 tp ymax =>
      obtain ⟨htag, hz, hfw, hs1, hz', htp, hy⟩ := eq_profile_iff.mp (Encoded.tx.inj h).symm
      rw [extract_one_eq_ofBool_iff] at htp
      simp [decodeTx, htag, hz, hfw, hs1, hz', hy, ← htp]
    | byteIn b | query b | slicedQuery b =>
      obtain ⟨htag, hz, hb⟩ := eq_tag_byte_iff.mp (Encoded.tx.inj h).symm
      simp [decodeTx, htag, hz, hb]
    | regWrite a b =>
      obtain ⟨htag, hz, ha, hb⟩ := eq_tag_bytes_iff.mp (Encoded.tx.inj h).symm
      simp [decodeTx, htag, hz, ha, hb]
    | regRead a =>
      obtain ⟨htag, hz, ha, hb⟩ := eq_tag_bytes_iff.mp (Encoded.tx.inj h).symm
      simp [decodeTx, htag, hz, ha, hb]
    | pktTrackpoint p | pktUnknownSanityCrc p | pktStatusCrc p | pktHeadCrc p | pktMotionCrc p | pktUnknownKind3Crc p
    | pktStatusIc7 p | pktHeadIc7 p | pktMotionIc7 p | pktUnknownKind3Ic7 p | pktStatusDefault p | pktHeadDefault p
    | pktMotionDefault p | pktUnknownKind3Default p | pktUnknownSanity p => cases h

/-! The words the decoder refuses (30 R80, R93). -/

theorem extractLsb'_eq_zero_iff {n k m : Nat} {x : BitVec n} : x.extractLsb' k m = 0 ↔ x.toNat / 2 ^ k % 2 ^ m = 0 := by
  rw [← BitVec.toNat_inj, BitVec.extractLsb'_toNat, Nat.shiftRight_eq_div_pow]
  simp

theorem tag_eq_iff {t : TxWord} {k : BitVec 4} : t.tag = k ↔ t.toNat / 2 ^ 60 = k.toNat := by
  rw [← BitVec.toNat_inj, TxWord.tag, BitVec.extractLsb'_toNat, Nat.shiftRight_eq_div_pow, Nat.mod_eq_of_lt]
  have := t.isLt
  omega

/-- A check that answers an instruction or an error answers an error exactly when it fails. -/
theorem exists_error_ite_iff {p : Prop} [Decidable p] {i : Instr} {e : Reject} :
    (∃ r, (if p then Except.ok i else Except.error e) = .error r) ↔ ¬ p := by
  by_cases h : p <;> simp [h]

/-- A word is refused exactly when its tag is reserved or a must-be-0 bit of its tag is set. -/
theorem decodeTx_error_iff (w : TxWord) : (∃ r, decodeTx w = .error r) ↔
    7 ≤ w.toNat / 2 ^ 60 ∨
    (w.toNat / 2 ^ 60 = 0 ∧ w.toNat % 2 ^ 60 ≠ 0) ∨
    (w.toNat / 2 ^ 60 = 1 ∧ (w.toNat / 2 ^ 56 % 2 ^ 4 ≠ 0 ∨ w.toNat / 2 ^ 17 % 2 ^ 7 ≠ 0)) ∨
    (w.toNat / 2 ^ 60 = 2 ∧ w.toNat / 2 ^ 8 % 2 ^ 52 ≠ 0) ∨
    (w.toNat / 2 ^ 60 = 3 ∧ w.toNat / 2 ^ 16 % 2 ^ 44 ≠ 0) ∨
    (w.toNat / 2 ^ 60 = 4 ∧ (w.toNat / 2 ^ 16 % 2 ^ 44 ≠ 0 ∨ w.toNat % 2 ^ 8 ≠ 0)) ∨
    (w.toNat / 2 ^ 60 = 5 ∧ w.toNat / 2 ^ 8 % 2 ^ 52 ≠ 0) ∨
    (w.toNat / 2 ^ 60 = 6 ∧ w.toNat / 2 ^ 8 % 2 ^ 52 ≠ 0) := by
  simp only [decodeTx, tag_eq_iff, extractLsb'_eq_zero_iff, pow_zero, Nat.div_one]
  generalize w.toNat / 2 ^ 60 = tag
  by_cases htag : 7 ≤ tag
  · have hne : ∀ k < 7, tag ≠ k := by omega
    simp [htag, hne]
  · interval_cases tag <;> simp [exists_error_ite_iff, imp_iff_not_or]

/-! The classification map by header bytes (30 R83, R92). -/

/-- Two masked readings of a byte say together what one reading under both masks says. -/
theorem and_or_eq_iff {n : Nat} {a b v x : BitVec n} (hv : v &&& (a ||| b) = v) :
    x &&& (a ||| b) = v ↔ x &&& a = v &&& a ∧ x &&& b = v &&& b := by
  constructor
  · intro h
    have absorb : ∀ c d : BitVec n, (c ||| d) &&& c = c := fun c d => by ext i; simpa using Or.inl
    rw [← h, BitVec.and_assoc, BitVec.and_assoc, absorb a b, BitVec.or_comm, absorb b a]
    exact ⟨rfl, rfl⟩
  · rintro ⟨ha, hb⟩
    rw [BitVec.and_or_distrib_left, ha, hb, ← BitVec.and_or_distrib_left, hv]

/-- The row of the first entry of a list that applies, as `decodeRow` takes it from the map (30 R92). -/
def firstRow (m : PktMode) (p : Packet) : List MapRow → PktRow
  | [] => .sanity
  | r :: rs => if r.hits m p.word = true then r.row else firstRow m p rs

theorem decodeRow_eq_firstRow (m : PktMode) (p : Packet) : decodeRow m p = firstRow m p classificationMap := by
  unfold decodeRow
  induction classificationMap with
  | nil => rfl
  | cons r rs ih =>
    rw [firstRow, List.find?_cons, ← ih]
    cases r.hits m p.word <;> rfl

/-- A row applies when its condition holds and every byte of the packet under the mask is the pattern's. -/
theorem hits_word_iff {m : PktMode} {p : Packet} {r : MapRow} :
    r.hits m p.word = true ↔ r.cond.holds m = true ∧
      p[0] &&& (Packet.ofWord r.mask)[0] = (Packet.ofWord r.pat)[0] ∧
      p[1] &&& (Packet.ofWord r.mask)[1] = (Packet.ofWord r.pat)[1] ∧
      p[2] &&& (Packet.ofWord r.mask)[2] = (Packet.ofWord r.pat)[2] ∧
      p[3] &&& (Packet.ofWord r.mask)[3] = (Packet.ofWord r.pat)[3] ∧
      p[4] &&& (Packet.ofWord r.mask)[4] = (Packet.ofWord r.pat)[4] ∧
      p[5] &&& (Packet.ofWord r.mask)[5] = (Packet.ofWord r.pat)[5] := by
  rw [MapRow.hits, Bool.and_eq_true, beq_iff_eq, ← word_and_eq_iff, word_ofWord, word_ofWord]

/-- The row of a packet that passes the check, by its kind field `p[3][1:0]` (42 R208). -/
def kindRow : CheckMode → Byte → PktRow
  | .crc, k => if k = 0 then .statusCrc else if k = 1 then .headCrc else if k = 2 then .motionCrc else .kind3Crc
  | .ic7, k => if k = 0 then .statusIc7 else if k = 1 then .headIc7 else if k = 2 then .motionIc7 else .kind3Ic7
  | .default, k =>
    if k = 0 then .statusDefault else if k = 1 then .headDefault else if k = 2 then .motionDefault else .kind3Default

/-- The row of a packet that fails the check (42 R205 to R207). -/
def failRow : CheckMode → PktRow
  | .crc => .sanityCrc
  | .ic7 | .default => .sanity

/-! The masks of the map's rows against the masks of the checks (42 R205 to R208). -/

theorem and_crc_iff {x v : Byte} (hv : v &&& 0x0B#8 = v) :
    x &&& 0x0B#8 = v ↔ x &&& 0x08#8 = v &&& 0x08#8 ∧ x &&& 0x03#8 = v &&& 0x03#8 :=
  and_or_eq_iff (a := 0x08#8) (b := 0x03#8) hv

theorem and_check_iff {x v : Byte} (hv : v &&& 0x1F#8 = v) :
    x &&& 0x1F#8 = v ↔ x &&& 0x1C#8 = v &&& 0x1C#8 ∧ x &&& 0x03#8 = v &&& 0x03#8 :=
  and_or_eq_iff (a := 0x1C#8) (b := 0x03#8) hv

theorem and_bit3_eq_iff (x : Byte) : x &&& 0x08#8 = 0x08#8 ↔ x &&& 0x08#8 ≠ 0x00#8 := by
  decide +revert

/-- The kind field `p[3][1:0]` is one of four. -/
theorem kindField_cases (x : Byte) :
    x &&& 0x03#8 = 0x00#8 ∨ x &&& 0x03#8 = 0x01#8 ∨ x &&& 0x03#8 = 0x02#8 ∨ x &&& 0x03#8 = 0x03#8 := by
  decide +revert

/-- The row of a packet in the order of Classify: TrackPoint first, then the check, then the kind field (30 R92, 42 R203). -/
theorem decodeRow_eq (m : PktMode) (p : Packet) :
    decodeRow m p =
      if m.tp ∧ p[3] &&& 0x0F = 0x06 then .trackpoint
      else if sanityOK m.check p then kindRow m.check (p[3] &&& 0x03)
      else failRow m.check := by
  rw [decodeRow_eq_firstRow]
  simp only [classificationMap, BitVec.ofNat_eq_ofNat, firstRow, hits_word_iff, Packet.ofWord, BitVec.reduceExtractLsb',
    Vector.getElem_mk, List.getElem_toArray, List.getElem_cons_zero, List.getElem_cons_succ, BitVec.and_zero, and_self,
    and_true, true_and, BitVec.extractLsb'_zero, ite_self]
  obtain ⟨tp, c⟩ := m
  cases c with
  | crc =>
    by_cases hs : p[3] &&& 0x08#8 = 0x00#8
    · rcases kindField_cases p[3] with hk | hk | hk | hk <;>
        simp [RowCond.holds, sanityOK, kindRow, hs, hk, and_crc_iff]
    · simp [RowCond.holds, sanityOK, failRow, hs, and_bit3_eq_iff]
  | ic7 =>
    by_cases hs : p[3] &&& 0x1C#8 = 0x10#8
    · rcases kindField_cases p[3] with hk | hk | hk | hk <;>
        simp [RowCond.holds, sanityOK, kindRow, hs, hk, and_check_iff]
    · simp [RowCond.holds, sanityOK, failRow, hs, and_check_iff]
  | default =>
    by_cases hs : p[0] &&& 0x08#8 = 0x00#8 ∧ p[3] &&& 0x1C#8 = 0x10#8
    · rcases kindField_cases p[3] with hk | hk | hk | hk <;>
        simp [RowCond.holds, sanityOK, kindRow, hs, hk, and_check_iff]
    · simp [RowCond.holds, sanityOK, failRow, hs, and_check_iff, ← and_assoc]

/-! Well-formedness of a packet row by the check and the kind field (30 R83). -/

theorem isCrc_eq (p : Packet) {k : Byte} (hk : k &&& 0x03#8 = k) : p.isCrc k = (sanityOK .crc p && p[3] &&& 0x03#8 == k) := by
  have hv : k &&& 0x0B#8 = k := by rw [← hk, BitVec.and_assoc]; rfl
  have h8 : k &&& 0x08#8 = 0x00#8 := by rw [← hk, BitVec.and_assoc]; simp
  rw [Bool.eq_iff_iff]
  simp [Packet.isCrc, sanityOK, and_crc_iff hv, h8, hk]

theorem isIc7_eq (p : Packet) {k : Byte} (hk : k &&& 0x03#8 = k) : p.isIc7 k = (sanityOK .ic7 p && p[3] &&& 0x03#8 == k) := by
  have hv : (0x10#8 ||| k) &&& 0x1F#8 = 0x10#8 ||| k := by rw [← hk, BitVec.and_or_distrib_right, BitVec.and_assoc]; rfl
  have h8 : (0x10#8 ||| k) &&& 0x1C#8 = 0x10#8 := by rw [← hk, BitVec.and_or_distrib_right, BitVec.and_assoc]; simp
  have h3 : (0x10#8 ||| k) &&& 0x03#8 = k := by rw [BitVec.and_or_distrib_right, hk]; simp
  rw [Bool.eq_iff_iff]
  simp [Packet.isIc7, sanityOK, and_check_iff hv, h8, h3]

theorem isDefault_eq (p : Packet) {k : Byte} (hk : k &&& 0x03#8 = k) :
    p.isDefault k = (sanityOK .default p && p[3] &&& 0x03#8 == k) := by
  have h : p.isDefault k = (p[0] &&& 0x08 == 0 && p.isIc7 k) := rfl
  rw [h, isIc7_eq p hk, ← Bool.and_assoc]
  rfl

theorem failsDefault_eq (p : Packet) : p.failsDefault = !sanityOK .default p := rfl

/-! The kinds of the rows (42 R208). -/

theorem rowKind_kindRow (c : CheckMode) (k : Byte) :
    rowKind (kindRow c k) = if k = 0 then .status else if k = 1 then .head else if k = 2 then .motion else .unknown := by
  cases c <;> (simp only [kindRow]; split_ifs <;> rfl)

theorem rowKind_failRow (c : CheckMode) : rowKind (failRow c) = .unknown := by cases c <;> rfl

/-- Settles O4: the map and Classify branch on the same header bits. -/
theorem classificationMapAgreesWithClassify : Obligations.ClassificationMapAgreesWithClassify := by
  intro m p
  rw [decodeRow_eq, apply_ite rowKind, apply_ite rowKind, rowKind_kindRow, rowKind_failRow]
  rfl

/-! The row a packet decodes to is one it is well formed for, and the only one under that row's mode. -/

theorem wellFormed_kindRow {c : CheckMode} {p : Packet} (h : sanityOK c p = true) :
    ((kindRow c (p[3] &&& 0x03)).instr p).wellFormed = true := by
  cases c <;> rcases kindField_cases p[3] with hk | hk | hk | hk <;>
    simp [kindRow, PktRow.instr, Instr.wellFormed, isCrc_eq, isIc7_eq, isDefault_eq, h, hk]

theorem wellFormed_failRow {c : CheckMode} {p : Packet} (h : sanityOK c p = false) :
    ((failRow c).instr p).wellFormed = true := by
  cases c with
  | crc => simpa [failRow, PktRow.instr, Instr.wellFormed, and_bit3_eq_iff, sanityOK] using h
  | ic7 =>
    have hd : sanityOK .default p = (p[0] &&& 0x08 == 0 && sanityOK .ic7 p) := rfl
    simp [failRow, PktRow.instr, Instr.wellFormed, failsDefault_eq, hd, h]
  | default => simp [failRow, PktRow.instr, Instr.wellFormed, failsDefault_eq, h]

theorem decodePacket_wellFormed (m : PktMode) (p : Packet) : (decodePacket m p).wellFormed = true := by
  rw [decodePacket, decodeRow_eq]
  split_ifs with ht hs
  · simpa [PktRow.instr, Instr.wellFormed] using ht.2
  · exact wellFormed_kindRow hs
  · exact wellFormed_failRow (Bool.eq_false_iff.mpr hs)

theorem decodeRow_of_wellFormed {r : PktRow} {p : Packet} (h : (r.instr p).wellFormed = true) :
    decodeRow (r.instr p).mode p = r := by
  rw [decodeRow_eq]
  cases r with
  | trackpoint =>
    have ht : p[3] &&& 0x0F = 0x06 := by simpa [PktRow.instr, Instr.wellFormed] using h
    exact if_pos ⟨rfl, ht⟩
  | sanityCrc =>
    have hs : sanityOK .crc p = false := by
      simpa [PktRow.instr, Instr.wellFormed, sanityOK, and_bit3_eq_iff] using h
    simp [PktRow.instr, Instr.mode, hs, failRow]
  | sanity =>
    have hs : sanityOK .default p = false := by simpa [PktRow.instr, Instr.wellFormed, failsDefault_eq] using h
    simp [PktRow.instr, Instr.mode, hs, failRow]
  | statusCrc | headCrc | motionCrc | kind3Crc =>
    simp (disch := decide) only [PktRow.instr, Instr.wellFormed, isCrc_eq, Bool.and_eq_true, beq_iff_eq] at h
    simp [PktRow.instr, Instr.mode, h, kindRow]
  | statusIc7 | headIc7 | motionIc7 | kind3Ic7 =>
    simp (disch := decide) only [PktRow.instr, Instr.wellFormed, isIc7_eq, Bool.and_eq_true, beq_iff_eq] at h
    simp [PktRow.instr, Instr.mode, h, kindRow]
  | statusDefault | headDefault | motionDefault | kind3Default =>
    simp (disch := decide) only [PktRow.instr, Instr.wellFormed, isDefault_eq, Bool.and_eq_true, beq_iff_eq] at h
    simp [PktRow.instr, Instr.mode, h, kindRow]

/-! Encoding and decoding of every instruction. -/

theorem encode_instr (r : PktRow) (p : Packet) : encode (r.instr p) = .packet p.word := by
  cases r <;> rfl

/-- An instruction is a transaction or a packet row with its packet. -/
theorem transaction_or_row (i : Instr) : IsTransaction i ∨ ∃ (r : PktRow) (p : Packet), i = r.instr p := by
  cases i with
  | reset | profileLoad | byteIn | regWrite | regRead | query | slicedQuery => exact .inl (by constructor)
  | pktTrackpoint p => exact .inr ⟨.trackpoint, p, rfl⟩
  | pktUnknownSanityCrc p => exact .inr ⟨.sanityCrc, p, rfl⟩
  | pktStatusCrc p => exact .inr ⟨.statusCrc, p, rfl⟩
  | pktHeadCrc p => exact .inr ⟨.headCrc, p, rfl⟩
  | pktMotionCrc p => exact .inr ⟨.motionCrc, p, rfl⟩
  | pktUnknownKind3Crc p => exact .inr ⟨.kind3Crc, p, rfl⟩
  | pktStatusIc7 p => exact .inr ⟨.statusIc7, p, rfl⟩
  | pktHeadIc7 p => exact .inr ⟨.headIc7, p, rfl⟩
  | pktMotionIc7 p => exact .inr ⟨.motionIc7, p, rfl⟩
  | pktUnknownKind3Ic7 p => exact .inr ⟨.kind3Ic7, p, rfl⟩
  | pktStatusDefault p => exact .inr ⟨.statusDefault, p, rfl⟩
  | pktHeadDefault p => exact .inr ⟨.headDefault, p, rfl⟩
  | pktMotionDefault p => exact .inr ⟨.motionDefault, p, rfl⟩
  | pktUnknownKind3Default p => exact .inr ⟨.kind3Default, p, rfl⟩
  | pktUnknownSanity p => exact .inr ⟨.sanity, p, rfl⟩

/-- A transaction is well formed at every operand, and its encoding is a transaction word. -/
theorem IsTransaction.wellFormed {i : Instr} (h : IsTransaction i) : i.wellFormed = true := by
  cases h <;> rfl

theorem IsTransaction.encode_eq_tx {i : Instr} (h : IsTransaction i) : ∃ t, encode i = .tx t := by
  cases h <;> exact ⟨_, rfl⟩

/-- Settles O1: a transaction's word holds its fields, and a packet's header picks its row under the row's mode. -/
theorem decodeOfEncodeIsInstruction : Obligations.DecodeOfEncodeIsInstruction := by
  intro i hi
  rcases transaction_or_row i with h | ⟨r, p, rfl⟩
  · obtain ⟨t, ht⟩ := h.encode_eq_tx
    rw [ht]
    exact decodeTx_eq_ok_iff.mpr ht
  · rw [encode_instr, decode, ofWord_word, decodePacket, decodeRow_of_wellFormed hi]

/-- Settles O2: a transaction word is its tag, its fields and zeros, and a packet keeps all its bytes and has its row's header. -/
theorem encodeOfDecodeIsWord : Obligations.EncodeOfDecodeIsWord := by
  intro m e i h
  cases e with
  | tx t => exact ⟨decodeTx_eq_ok_iff.mp h, (decodeTx_isTransaction h).wellFormed⟩
  | packet w =>
    cases h
    exact ⟨by rw [decodePacket, encode_instr, word_ofWord], decodePacket_wellFormed m _⟩

/-- Settles O3: each word is decoded. -/
theorem specWordsDecode : Obligations.SpecWordsDecode :=
  ⟨rfl, rfl, rfl, rfl, rfl, rfl, rfl, rfl⟩

/-! The mark of a refused word (60 R279). -/

section Mark

variable {s t : State}

theorem accept_error {w : TxWord} {r : Reject} (hw : decodeTx w = .error r) :
    accept w s = .next { s with refusedMark := true } := by
  simp only [accept, hw]

theorem completePacket_refusedMark (k : PacketKind) (p : Packet) (s : State) :
    (completePacket k p s).refusedMark = s.refusedMark := by
  rw [completePacket_frame]

theorem Machine.Effect.refusedMark (h : Effect s t) : t.refusedMark = s.refusedMark := by
  cases h with
  | sixth | packet => exact completePacket_refusedMark ..
  | reset | load | unload | unconfigured | unsupported | buffer | error | start => rfl

theorem Machine.SerEffect.refusedMark (h : SerEffect s t) : t.refusedMark = s.refusedMark := by
  cases h <;> rfl

/-- A step leaves the mark as it is or sets it. -/
theorem Machine.StepEffect.refusedMark (h : StepEffect s t) : t.refusedMark = s.refusedMark ∨ t.refusedMark = true := by
  cases h with
  | still | turn | abandon | queue | late => exact .inl rfl
  | run ts ws t hb he => exact .inl he.refusedMark
  | mark => exact .inr rfl
  | serial ts t hb he => exact .inl he.refusedMark

end Mark

/-- Settles O6: the idle turn marks a refused word, and no effect of a step clears the mark. -/
theorem malformedWordsAreRefused : Obligations.MalformedWordsAreRefused := by
  refine ⟨decodeTx_error_iff, fun s w more r hp hr => ?_, fun s t hs hm => ?_⟩
  · rw [step_presents hp, accept_error hr]
  · rcases (step_effect hs).refusedMark with h | h
    · exact h.trans hm
    · exact h

/-! The packet rows (43 R232, R233). -/

theorem exec_head {p : Packet} {i : Instr} (s : State) (h : i ∈ [Instr.pktHeadCrc p, .pktHeadIc7 p, .pktHeadDefault p]) :
    exec i s = .next (completePacket .head p s) := by
  simp only [List.mem_cons, List.not_mem_nil, or_false] at h
  rcases h with rfl | rfl | rfl <;> rfl

theorem exec_motion {p : Packet} {i : Instr} (s : State)
    (h : i ∈ [Instr.pktMotionCrc p, .pktMotionIc7 p, .pktMotionDefault p]) :
    exec i s = .next (completePacket .motion p s) := by
  simp only [List.mem_cons, List.not_mem_nil, or_false] at h
  rcases h with rfl | rfl | rfl <;> rfl

/-- Settles O25: the Head decode with its slot, its coordinates read in arithmetic. -/
theorem headPacketResult : Obligations.HeadPacketResult := by
  intro p s k i hi hk
  refine ⟨headX p, headY s.cfgYmax p, headX_toNat p, headY_eq s.cfgYmax p, ?_⟩
  rw [exec_head s hi, completePacket, decodeKind, decodeHead_valid _ hk]
  rfl

theorem slotOfId_sid_slotField3 {p : Packet} {sec : Option Slot}
    (h : p[3].toNat / 32 = (match sec with | none => 0 | some j => j.val + 1)) :
    slotOfId (sid (slotField3 p)) = sec := by
  cases sec with
  | none => rw [slotOfId_sid_none, slotField3_toNat]; exact .inl h
  | some j => rw [slotOfId_sid_some, slotField3_toNat]; exact h

theorem applyDelta_track (w : Coord) (i : Slot) (dx dy : Coord) (s : State) : (applyDelta w i dx dy s).1.track = s.track := by
  rw [applyDelta_frame]

/-- The moves of a Motion: the primary slot's and then the secondary's, if there is one (43 R233). -/
def applyBoth (w : Coord) (i : Slot) (sec : Option Slot) (dx dy dx' dy' : Coord) (s : State) : State × List PacketEvent :=
  let first := applyDelta w i dx dy s
  let second := applyDelta? w sec dx' dy' first.1
  (second.1, first.2 ++ second.2)

theorem decodeMotion_eq_applyBoth {p : Packet} (s : State) {i : Slot} (hi : p[0].toNat / 32 = i.val + 1)
    (h3 : p[3].toNat / 32 < 6) :
    decodeMotion p s =
      (let moved := applyBoth (motionWeight s.par.weight p) i (slotOfId (sid (slotField3 p))) (delta p[1]) (delta p[2])
        (delta p[4]) (delta p[5]) s
       (moved.1, moved.2 ++ [.fingersSync s.live])) := by
  rw [decodeMotion_valid s hi h3]
  rfl

section Moves

variable (w : Coord) (i : Slot) (sec : Option Slot) (dx dy dx' dy' : Coord) (s : State)

theorem applyBoth_frame :
    (applyBoth w i sec dx dy dx' dy' s).1 =
      { s with
        slotX := (applyBoth w i sec dx dy dx' dy' s).1.slotX
        slotY := (applyBoth w i sec dx dy dx' dy' s).1.slotY } := by
  simp only [applyBoth]
  rw [applyDelta?_frame, applyDelta_frame]

theorem applyBoth_slotX (j : Slot) :
    (applyBoth w i sec dx dy dx' dy' s).1.slotX[j] =
      s.slotX[j] + (if s.track.getLsbD j.val = true then
        ((if j = i then dx else 0) + (if sec = some j then dx' else 0)) * w else 0) := by
  simp only [applyBoth, (applyDelta?_slot _ _ _ _ _ _).1, (applyDelta_slot _ _ _ _ _ _).1, applyDelta_track]
  split
  · ring
  · simp

theorem applyBoth_slotY (j : Slot) :
    (applyBoth w i sec dx dy dx' dy' s).1.slotY[j] =
      s.slotY[j] - (if s.track.getLsbD j.val = true then
        ((if j = i then dy else 0) + (if sec = some j then dy' else 0)) * w else 0) := by
  simp only [applyBoth, (applyDelta?_slot _ _ _ _ _ _).2, (applyDelta_slot _ _ _ _ _ _).2, applyDelta_track]
  split
  · ring
  · simp

theorem applyBoth_events :
    (applyBoth w i sec dx dy dx' dy' s).2 =
      (if s.track.getLsbD i.val = true then [.fingerUpdate i (s.slotX[i] + dx * w) (s.slotY[i] - dy * w)] else []) ++
      (match sec with
       | none => []
       | some j =>
         if s.track.getLsbD j.val = true then
           [.fingerUpdate j (applyBoth w i sec dx dy dx' dy' s).1.slotX[j] (applyBoth w i sec dx dy dx' dy' s).1.slotY[j]]
         else []) := by
  have hfirst : (applyDelta w i dx dy s).2 =
      if s.track.getLsbD i.val = true then [.fingerUpdate i (s.slotX[i] + dx * w) (s.slotY[i] - dy * w)] else [] := by
    unfold applyDelta
    split <;> rfl
  cases sec <;> simp only [applyBoth, hfirst, applyDelta?_events, applyDelta_track]

end Moves

/-- Settles O26: the Motion decode moves the primary slot and then the secondary, so a slot named twice takes both deltas. -/
theorem motionPacketResult : Obligations.MotionPacketResult := by
  intro p s k sec i hi hk hsec
  have h3 : p[3].toNat / 32 < 6 := by
    rw [hsec]
    cases sec with
    | none => decide
    | some j => exact Nat.succ_lt_succ j.isLt
  let moved := applyBoth (motionWeight s.par.weight p) k sec (delta p[1]) (delta p[2]) (delta p[4]) (delta p[5])
    { s with frCount := 0 }
  refine ⟨motionWeight s.par.weight p, moved.1.slotX, moved.1.slotY, motionWeight_eq _ p,
    fun j => ⟨applyBoth_slotX .., applyBoth_slotY ..⟩, ?_⟩
  have hdecode : decodeMotion p { s with frCount := 0 } = (moved.1, moved.2 ++ [.fingersSync s.live]) := by
    rw [decodeMotion_eq_applyBoth _ hk h3, slotOfId_sid_slotField3 hsec]
  have hevents : moved.2 = _ := applyBoth_events ..
  have hframe : moved.1 = _ := applyBoth_frame ..
  rw [exec_motion s hi, completePacket, decodeKind, hdecode, hevents, hframe]
  rfl

/-- Two packets that agree on what their kind reads decode alike. -/
theorem decodeKind_congr {k : PacketKind} {p q : Packet} (s : State)
    (hs : k = .status → p[1].toNat % 32 = q[1].toNat % 32)
    (hh : k = .head → p[3].toNat / 32 = q[3].toNat / 32 ∧ p[1].toNat % 16 = q[1].toNat % 16 ∧ p[2] = q[2] ∧
      p[4].toNat % 16 = q[4].toNat % 16 ∧ p[5] = q[5])
    (hm : k = .motion → p[0].toNat / 16 = q[0].toNat / 16 ∧ p[3].toNat / 32 = q[3].toNat / 32 ∧
      p[1] = q[1] ∧ p[2] = q[2] ∧ p[4] = q[4] ∧ p[5] = q[5]) :
    decodeKind k p s = decodeKind k q s := by
  cases k with
  | unknown | trackPoint => rfl
  | status =>
    have hmask : statusMask p = statusMask q := BitVec.eq_of_toNat_eq (by rw [statusMask_toNat, statusMask_toNat, hs rfl])
    simp only [decodeKind, decodeStatus, hmask]
  | head =>
    obtain ⟨h3, h1, h2, h4, h5⟩ := hh rfl
    have hid : slotField3 p = slotField3 q := BitVec.eq_of_toNat_eq (by rw [slotField3_toNat, slotField3_toNat, h3])
    have hx : headX p = headX q := BitVec.eq_of_toNat_eq (by rw [headX_toNat, headX_toNat, h1, h2])
    have hy : headY s.cfgYmax p = headY s.cfgYmax q := by rw [headY_eq, headY_eq, h4, h5]
    simp only [decodeKind, decodeHead, hid, hx, hy]
  | motion =>
    obtain ⟨h0, h3, h1, h2, h4, h5⟩ := hm rfl
    have hid0 : slotField0 p = slotField0 q :=
      BitVec.eq_of_toNat_eq (by rw [slotField0_toNat, slotField0_toNat]; omega)
    have hid3 : slotField3 p = slotField3 q := BitVec.eq_of_toNat_eq (by rw [slotField3_toNat, slotField3_toNat, h3])
    have hw : motionWeight s.par.weight p = motionWeight s.par.weight q := by rw [motionWeight_eq, motionWeight_eq, h0]
    simp only [decodeKind, decodeMotion, hid0, hid3, hw, h1, h2, h4, h5]

/-- Settles O32: the decodes of the two packets are the same. -/
theorem unreadPacketBitsChangeOnlyRaw : Obligations.UnreadPacketBitsChangeOnlyRaw := by
  intro r p q s hs hh hm
  have hdecode := decodeKind_congr { s with frCount := 0 } hs hh hm
  refine ⟨completePacket (rowKind r) p s, (decodeKind (rowKind r) p { s with frCount := 0 }).2, ?_, ?_⟩
  · rw [exec_instr, completePacket_frame]
  · rw [exec_instr, completePacket_frame, completePacket_frame, hdecode]

end Sys2Proof

/-! The register I/O requests (40_register_io.md): their checks and their starts, and their plans with the default table. -/

namespace Sys2Proof

open Machine

/-! The checks and the starts (40 R120, R131 to R136). -/

section Starts

variable {s : State} {r : Req} {plan : List SerStep}

/-- The instruction that makes a request (40 R131 to R134). -/
def Req.instr : Req → Instr
  | .write a v => .regWrite a v
  | .read a => .regRead a
  | .query q => .query q
  | .slicedQuery q => .slicedQuery q

theorem gen_eq_some_iff {g : Gen} : s.gen = some g ↔ s.cfgValid = true ∧ genOf s.cfgFw = some g := by
  simp [State.gen]

theorem startConfigured_invalid (r : Req) (plan : Gen → List SerStep) (hv : s.cfgValid = false) :
    startConfigured r plan s = .next (s.result (.err .notConfigured)) := by
  simp [startConfigured, hv]

theorem startConfigured_mapped {g : Gen} (r : Req) (plan : Gen → List SerStep) (hv : s.cfgValid = true)
    (hg : genOf s.cfgFw = some g) : startConfigured r plan s = .next (s.startRequest r (plan g)) := by
  simp [startConfigured, hv, hg]

theorem execRegWrite_legal {a : Byte} (v : Byte) (ha : addrOK a = true) :
    execRegWrite a v s = startConfigured (.write a v) (fun g => writePlan s.par g a v) s := if_pos ha

theorem execRegWrite_illegal {a : Byte} (v : Byte) (ha : ¬ addrOK a = true) :
    execRegWrite a v s = .next (s.result (.err (.invalidRegister a))) := if_neg ha

theorem execRegRead_legal {a : Byte} (ha : addrOK a = true) :
    execRegRead a s = startConfigured (.read a) (fun g => readPlan s.par g a) s := if_pos ha

theorem execRegRead_illegal {a : Byte} (ha : ¬ addrOK a = true) :
    execRegRead a s = .next (s.result (.err (.invalidRegister a))) := if_neg ha

/-- A request that passes its checks starts its plan. -/
theorem Machine.Starts.exec_instr (h : Starts s r plan) : exec r.instr s = .next (s.startRequest r plan) := by
  cases h with
  | write g a v hv hg ha => exact (execRegWrite_legal v ha).trans (startConfigured_mapped _ _ hv hg)
  | read g a hv hg ha => exact (execRegRead_legal ha).trans (startConfigured_mapped _ _ hv hg)
  | query g q hv hg => exact startConfigured_mapped _ _ hv hg
  | sliced q => rfl

/-- The checks read no turn. -/
theorem Machine.Starts.withTurns (h : Starts s r plan) (ts : List Turn) : Starts { s with turns := ts } r plan := by
  cases h with
  | write g a v hv hg ha => exact .write g a v hv hg ha
  | read g a hv hg ha => exact .read g a hv hg ha
  | query g q hv hg => exact .query g q hv hg
  | sliced q => exact .sliced q

end Starts

/-- Settles O33: the address check comes first in both register accesses. -/
theorem illegalAddressIsInvalidRegister : Obligations.IllegalAddressIsInvalidRegister := by
  intro a v s h
  rw [← addrOK_iff] at h
  exact ⟨execRegWrite_illegal v h, execRegRead_illegal h⟩

/-- Settles O34: the profile check follows the address check of a register access and is the only check of a query. -/
theorem noProfileIsNotConfigured : Obligations.NoProfileIsNotConfigured := by
  intro a v q s hv
  refine ⟨fun i hi => ?_, startConfigured_invalid _ _ hv⟩
  simp only [← addrOK_iff]
  split
  · next ha =>
    simp only [List.mem_cons, List.not_mem_nil, or_false] at hi
    rcases hi with rfl | rfl
    · exact (execRegWrite_legal v ha).trans (startConfigured_invalid _ _ hv)
    · exact (execRegRead_legal ha).trans (startConfigured_invalid _ _ hv)
  · next ha =>
    simp only [List.mem_cons, List.not_mem_nil, or_false] at hi
    rcases hi with rfl | rfl
    · exact execRegWrite_illegal v ha
    · exact execRegRead_illegal ha

theorem queryDialect_eq_ite (g : Gen) : queryDialect g = if g = .v1 ∨ g = .v2 then .slicedPS2 else .directElan := by
  cases g <;> rfl

/-- Settles O35: each of the four requests starts under the checks it makes. -/
theorem requestsStartTheirPlans : Obligations.RequestsStartTheirPlans := by
  intro a v q s
  refine ⟨fun g hg ha => ?_, fun g hg => ?_, (Starts.sliced q).exec_instr⟩
  · obtain ⟨hv, hg⟩ := gen_eq_some_iff.mp hg
    exact ⟨(Starts.write g a v hv hg ha).exec_instr, (Starts.read g a hv hg ha).exec_instr⟩
  · obtain ⟨hv, hg⟩ := gen_eq_some_iff.mp hg
    rw [← queryDialect_eq_ite]
    exact (Starts.query g q hv hg).exec_instr

/-! BYTE_IN beside the serializer (40 R135, 42 R211). -/

/-- The channel port, the results and the serializer's state are the same. -/
def SameSerializer (s t : State) : Prop :=
  t.chanOut = s.chanOut ∧ t.results = s.results ∧ t.serBusy = s.serBusy ∧ t.serPlan = s.serPlan ∧ t.serIdx = s.serIdx ∧
    t.serTry = s.serTry ∧ t.serRep = s.serRep ∧ t.serReq = s.serReq ∧ t.serPhase = s.serPhase ∧ t.owed = s.owed

theorem completePacket_sameSerializer (k : PacketKind) (p : Packet) (s : State) :
    SameSerializer s (completePacket k p s) := by
  rw [completePacket_frame]
  exact ⟨rfl, rfl, rfl, rfl, rfl, rfl, rfl, rfl, rfl, rfl⟩

/-- Settles O23: in each of the four cases of a BYTE_IN the serializer is untouched. -/
theorem byteInLeavesSerializerAlone : Obligations.ByteInLeavesSerializerAlone := by
  intro b s
  rcases byteIn_cases s with hv | ⟨hv, hg⟩ | ⟨hg, hc⟩ | ⟨hg, hc⟩
  · exact ⟨_, execByteIn_unconfigured b hv, rfl, rfl, rfl, rfl, rfl, rfl, rfl, rfl, rfl, rfl⟩
  · exact ⟨_, execByteIn_unsupported b hv hg, rfl, rfl, rfl, rfl, rfl, rfl, rfl, rfl, rfl, rfl⟩
  · exact ⟨_, execByteIn_buffer b hg hc, rfl, rfl, rfl, rfl, rfl, rfl, rfl, rfl, rfl, rfl⟩
  · exact ⟨_, execByteIn_sixth b hg hc, completePacket_sameSerializer _ _ (s.putByte b).advanceFrame⟩

/-! The plans of the default table (40 R124 to R130). -/

section Plans

variable {par : Params}

@[simp] theorem planStep_slice (r : Req) (b : PlanByte) :
    planStep par r (.slice b) = ⟨slice par (planByte par r b), 0, false⟩ := by
  simp [planStep, PlanStep.slice, planPiece]

@[simp] theorem planStep_direct (r : Req) (b : PlanByte) :
    planStep par r (.direct b) = ⟨[planByte par r b], 0, true⟩ := rfl

@[simp] theorem planStep_plain (r : Req) (b : PlanByte) (n : Nat) (retry : Bool) :
    planStep par r ⟨[.plain b], n, retry⟩ = ⟨[planByte par r b], n, retry⟩ := rfl

theorem map_n_planStep (r : Req) (pl : List PlanStep) :
    (pl.map (planStep par r)).map SerStep.n = pl.map PlanStep.n := by
  rw [List.map_map]
  rfl

/-- A default write plan expects no reply byte. -/
theorem writePlan_map_n (ht : par.table = .default) (g : Gen) (a v : Byte) :
    (writePlan par g a v).map SerStep.n = List.replicate (writePlan par g a v).length 0 := by
  rw [writePlan, map_n_planStep, List.length_map, ht]
  cases g <;> rfl

/-- A default read plan expects three reply bytes at its last step. -/
theorem readPlan_map_n (ht : par.table = .default) (g : Gen) (a : Byte) :
    (readPlan par g a).map SerStep.n = List.replicate ((readPlan par g a).length - 1) 0 ++ [3] := by
  rw [readPlan, map_n_planStep, List.length_map, ht]
  cases g <;> rfl

theorem writePlan_ne_nil (ht : par.table = .default) (g : Gen) (a v : Byte) : writePlan par g a v ≠ [] := by
  rw [writePlan, ht]
  cases g <;> exact List.cons_ne_nil _ _

theorem readPlan_ne_nil (ht : par.table = .default) (g : Gen) (a : Byte) : readPlan par g a ≠ [] := by
  rw [readPlan, ht]
  cases g <;> exact List.cons_ne_nil _ _

end Plans

/-- Settles O37: the operands filled in, step by step. -/
theorem defaultWritePlans : Obligations.DefaultWritePlans := by
  intro par a v ht
  refine ⟨?_, fun g hg => ?_, ?_⟩
  · simp [writePlan, SerializerTable.write, ht, SerializerTable.default, planByte, cmdByte, reqByte]
  · rcases hg with rfl | rfl <;>
      simp [writePlan, SerializerTable.write, ht, SerializerTable.default, planByte, cmdByte, reqByte]
  · simp [writePlan, SerializerTable.write, ht, SerializerTable.default, planByte, cmdByte, reqByte]

/-- Settles O38: the operands filled in, step by step. -/
theorem defaultReadAndQueryPlans : Obligations.DefaultReadAndQueryPlans := by
  intro par a q ht
  refine ⟨?_, fun g hg => ?_, ?_, ?_, ?_⟩
  · simp [readPlan, SerializerTable.read, ht, SerializerTable.default, planByte, cmdByte, reqByte]
  · cases g with
    | v1 => exact absurd rfl hg
    | v2 | v3 | v4 => simp [readPlan, SerializerTable.read, ht, SerializerTable.default, planByte, cmdByte, reqByte]
  · simp [queryPlan, SerializerTable.queryIn, ht, SerializerTable.default, planByte, cmdByte, reqByte]
  · simp [slicedQueryPlan, ht, SerializerTable.default, planByte, cmdByte, reqByte]
  · simp [queryPlan, SerializerTable.queryIn, ht, SerializerTable.default, planByte, cmdByte, reqByte]

theorem slice_length {par : Params} (hp : par.slicedPrefix = []) (b : Byte) : (slice par b).length = 8 := by
  simp [slice, hp]

/-- Settles O49: the default plans written out, a sliced byte being eight command bytes. -/
theorem transferCounts : Obligations.TransferCounts := by
  intro par a v q ht hp size
  obtain ⟨hw1, hw23, hw4⟩ := defaultWritePlans par a v ht
  obtain ⟨hr1, hr, hqs, hs, hqd⟩ := defaultReadAndQueryPlans par a q ht
  simp [size, hw1, hw23, hw4, hr1, hr, queryDialect, hqs, hqd, hs, slice_length hp]

end Sys2Proof

/-! The register I/O serializer (40 R122 to R135): its moves as equations, what they leave alone, and a request run from its start
to its result as Execute gives it. -/

namespace Sys2Proof

open Machine

/-! The moves, one equation for each (40 R122). -/

section SerMoves

variable {s : State} {st : SerStep} {a : ChanAnswer} {r : List Byte} {res : Result} {more : List Turn}

theorem serMove_issue (hp : s.serPhase = .issue) (hst : s.serPlan[s.serIdx]? = some st) :
    serMove s = .next { s.sendChannel (.transfer st.cmds st.n) with serPhase := .answer } := by
  simp only [serMove, hp, hst]

theorem serMove_wait (hp : s.serPhase = .wait) :
    serMove s = .next { s.sendChannel (.wait s.par.retryDelay) with serTry := s.serTry + 1, serPhase := .issue } := by
  simp only [serMove, hp]

/-- The turn leaves the next move to the block, and `more` is left after it: a turn of the block's own, no turn at all, or an answer
that stays for a Transfer not yet issued. -/
def LeavesMove (s : State) (more : List Turn) : Prop :=
  s.turns = .block :: more ∨ (s.turns = more ∧ (more = [] ∨ ∃ a later, more = .channel a :: later))

theorem step_serMove (hb : s.serBusy = true) (hp : s.serPhase ≠ .answer) (ht : LeavesMove s more) :
    step s = serMove { s with turns := more } := by
  rw [step_busy hb]
  rcases ht with ht | ⟨rfl, ht | ⟨a, later, ht⟩⟩
  · exact busyTurn_block ht
  · exact busyTurn_end ht
  · rw [busyTurn_channel ht, if_neg hp]

theorem step_issue (hb : s.serBusy = true) (hp : s.serPhase = .issue) (hst : s.serPlan[s.serIdx]? = some st)
    (ht : LeavesMove s more) :
    step s = .next { s with
      turns := more, chanOut := s.chanOut ++ [.transfer st.cmds st.n], serPhase := .answer } := by
  have hp' : s.serPhase ≠ .answer := by simp [hp]
  exact (step_serMove hb hp' ht).trans (serMove_issue (s := { s with turns := more }) hp hst)

theorem step_wait (hb : s.serBusy = true) (hp : s.serPhase = .wait) (ht : LeavesMove s more) :
    step s = .next { s with
      turns := more, chanOut := s.chanOut ++ [.wait s.par.retryDelay], serTry := s.serTry + 1, serPhase := .issue } := by
  have hp' : s.serPhase ≠ .answer := by simp [hp]
  exact (step_serMove hb hp' ht).trans (serMove_wait (s := { s with turns := more }) hp)

theorem step_serAnswer (hb : s.serBusy = true) (hp : s.serPhase = .answer) (ht : s.turns = .channel a :: more) :
    step s = serAnswer a { s with turns := more } := by
  rw [step_busy hb, busyTurn_channel ht, if_pos hp]

theorem step_reply (hb : s.serBusy = true) (hp : s.serPhase = .answer) (hst : s.serPlan[s.serIdx]? = some st)
    (ht : s.turns = .channel a :: more) (hr : transferReply st.n a = some r) :
    step s = stepDone { s with turns := more } r := by
  rw [step_serAnswer hb hp ht]
  simp only [serAnswer, hst, hr]

theorem step_failed (hb : s.serBusy = true) (hp : s.serPhase = .answer) (hst : s.serPlan[s.serIdx]? = some st)
    (ht : s.turns = .channel a :: more) (hr : transferReply st.n a = none) :
    step s = stepFailed { s with turns := more } st := by
  rw [step_serAnswer hb hp ht]
  simp only [serAnswer, hst, hr]

theorem stepDone_advance (hlt : s.serIdx + 1 < s.serPlan.length) : stepDone s r = .next (s.nextStep r) := if_pos hlt

theorem stepDone_finish (hle : s.serPlan.length ≤ s.serIdx + 1)
    (hres : requestResult s.gen s.serReq (s.serRep ++ [r]) = some res) :
    stepDone s r = .next ((s.nextStep r).endRequest res) := by
  have hres' : requestResult (s.nextStep r).gen (s.nextStep r).serReq (s.nextStep r).serRep = some res := hres
  have hfinish : finishRequest (s.nextStep r) = .next ((s.nextStep r).endRequest res) := by
    simp only [finishRequest, hres']
  exact (if_neg (Nat.not_lt.mpr hle)).trans hfinish

theorem stepFailed_retry (h : st.retry = true ∧ s.serTry < s.par.nTries) :
    stepFailed s st = .next { s with serPhase := .wait } := if_pos h

theorem stepFailed_final (h : ¬ (st.retry = true ∧ s.serTry < s.par.nTries)) :
    stepFailed s st = .next (s.endRequest (.err (.transferFail s.serIdx s.serTry))) := if_neg h

end SerMoves

/-- Settles O40: the block's move of a request that is to issue a step. -/
theorem transferIsIssued : Obligations.TransferIsIssued := fun _ _ _ hb hp hst ht => step_issue hb hp hst ht

/-- Settles O41: the failed answer makes the Wait due, and the block's turn makes it. -/
theorem retryWaitsThenTriesAgain : Obligations.RetryWaitsThenTriesAgain := by
  intro s st more hb hp hst hr hlt ht
  let due : State := { s with turns := .block :: more, serPhase := .wait }
  have hfail : step s = .next due :=
    (step_failed hb hp hst ht rfl).trans (stepFailed_retry ⟨hr, BitVec.lt_def.mpr hlt⟩)
  have hwait : step due = _ := step_wait (s := due) hb rfl (.inl rfl)
  exact (run_succ hfail).trans (run_succ hwait)

/-! The result of a plan that is done (40 R129, R131 to R134). -/

section Results

variable {rep : List (List Byte)} {r0 r1 r2 : Byte}

theorem requestResult_write (g : Option Gen) (a v : Byte) (rep : List (List Byte)) :
    requestResult g (.write a v) rep = some .ok := rfl

theorem requestResult_read (g : Option Gen) (a : Byte) (h : rep.getLast? = some [r0, r1, r2]) :
    requestResult g (.read a) rep = some (.okByte (if g = some .v4 then r1 else r0)) := by
  simp only [requestResult, h, readValue]

theorem requestResult_read_of_gen {s : State} {g : Gen} (hg : s.gen = some g) (a : Byte)
    (h : rep.getLast? = some [r0, r1, r2]) :
    requestResult s.gen (.read a) rep = some (.okByte (if g = .v4 then r1 else r0)) := by
  rw [requestResult_read s.gen a h]
  simp only [hg, Option.some_inj]

theorem requestResult_query (g : Option Gen) (q : Byte) (h : rep.getLast? = some [r0, r1, r2]) :
    requestResult g (.query q) rep = some (.okBytes r0 r1 r2) := by
  simp only [requestResult, h]

theorem requestResult_slicedQuery (g : Option Gen) (q : Byte) (h : rep.getLast? = some [r0, r1, r2]) :
    requestResult g (.slicedQuery q) rep = some (.okBytes r0 r1 r2) := by
  simp only [requestResult, h]

end Results

/-- Settles O43: the answer is the last step's reply, so the request ends with the value read from it. -/
theorem readValueByGeneration : Obligations.ReadValueByGeneration := by
  intro s st addr r0 r1 r2 more hb hp hreq hst hn hlast ht
  have hreply : transferReply st.n (.ok [r0, r1, r2]) = some [r0, r1, r2] := by
    rw [hn]
    exact transferReply_ok [r0, r1, r2]
  have hres : requestResult s.gen s.serReq (s.serRep ++ [[r0, r1, r2]]) =
      some (.okByte (if s.gen = some .v4 then r1 else r0)) := by
    rw [hreq]
    exact requestResult_read s.gen addr List.getLast?_concat
  exact ⟨_, (step_reply hb hp hst ht hreply).trans (stepDone_finish hlast.ge hres), rfl, rfl, rfl, rfl⟩

/-! What a request in flight leaves alone (40 R135). -/

section Frame

variable {s t u : State}

theorem SameBlock.trans (h : SameBlock s t) (h' : SameBlock t u) : SameBlock s u := by
  unfold SameBlock at h h'
  rw [h] at h'
  exact h'

theorem SameBlock.par (h : SameBlock s t) : t.par = s.par := by rw [h]

theorem SameBlock.gen (h : SameBlock s t) : t.gen = s.gen := by rw [h]; rfl

theorem SameBlock.waiting (h : SameBlock s t) : t.waiting = s.waiting := by rw [h]

theorem Machine.SerEffect.sameBlock (h : SerEffect s t) : SameBlock s t := by
  cases h <;> rfl

end Frame

/-- Settles O44: of a step's effects with a request in flight only RESET writes more than the request. -/
theorem requestsLeaveTheRestAlone : Obligations.RequestsLeaveTheRestAlone := by
  intro s t h hb hr
  cases step_effect h with
  | still hb' | turn _ hb' | run _ _ _ hb' _ | mark _ _ hb' => exact absurd (hb.symm.trans hb') (by decide)
  | abandon ts _ hr' => exact absurd hr' hr
  | queue ts ws _ => rfl
  | late ts n _ => rfl
  | serial ts t _ he =>
    have hsame := he.sameBlock
    rw [hsame]
    rfl

/-! A run of a request (40 R122). -/

theorem run_add {M : Host.Core} {m n : Nat} {s t : M.State} (h : M.run m s = .next t) :
    M.run (m + n) s = M.run n t := by
  induction m generalizing s with
  | zero => cases h; rw [Nat.zero_add]
  | succ m ih =>
    cases hs : M.step s with
    | next u =>
      rw [run_succ hs] at h
      rw [Nat.succ_add, run_succ hs, ih h]
    | fault f => simp only [Host.Core.run, hs] at h; cases h
    | refused r => simp only [Host.Core.run, hs] at h; cases h

/-- Some number of steps takes `s` to `t`, with `tr` on the channel and `rs` on the host port meanwhile, and nothing else of the
block changed but the request's own state. -/
structure Reaches (s : State) (tr : List ChanOut) (rs : List Result) (t : State) : Prop where
  run : ∃ k, Host.Core.run core k s = .next t
  chanOut : t.chanOut = s.chanOut ++ tr
  results : t.results = s.results ++ rs
  same : SameBlock s t

/-- The block comes to be idle with `tr` put on the channel, the result `r` given and the turns `more` left. -/
def Completes (s : State) (tr : List ChanOut) (r : Result) (more : List Turn) : Prop :=
  ∃ t, Reaches s tr [r] t ∧ t.serBusy = false ∧ t.turns = more

section Runs

variable {s t u : State} {tr tr' : List ChanOut} {rs rs' : List Result} {r : Result} {more : List Turn}

theorem Reaches.trans (h : Reaches s tr rs t) (h' : Reaches t tr' rs' u) : Reaches s (tr ++ tr') (rs ++ rs') u := by
  obtain ⟨k, hk⟩ := h.run
  obtain ⟨k', hk'⟩ := h'.run
  exact
    { run := ⟨k + k', (run_add hk).trans hk'⟩
      chanOut := by rw [h'.chanOut, h.chanOut, List.append_assoc]
      results := by rw [h'.results, h.results, List.append_assoc]
      same := h.same.trans h'.same }

theorem Reaches.of_step (h : step s = .next t) (hc : t.chanOut = s.chanOut ++ tr) (hr : t.results = s.results ++ rs)
    (hs : SameBlock s t) : Reaches s tr rs t :=
  ⟨⟨1, run_succ h⟩, hc, hr, hs⟩

theorem Reaches.of_quiet_step (h : step s = .next t) (hc : t.chanOut = s.chanOut) (hr : t.results = s.results)
    (hs : SameBlock s t) : Reaches s [] [] t :=
  .of_step h (hc.trans (List.append_nil _).symm) (hr.trans (List.append_nil _).symm) hs

theorem Reaches.completes (h : Reaches s tr [] t) (h' : Completes t tr' r more) : Completes s (tr ++ tr') r more := by
  obtain ⟨u, hu, hidle, hmore⟩ := h'
  exact ⟨u, h.trans hu, hidle, hmore⟩

end Runs

/-! Execute, one equation for each way an attempt can go (40 R122). -/

section Execute

variable {nTries t : Byte} {delay i : Nat} {st : SerStep} {rest : List SerStep} {rep : List (List Byte)} {a : ChanAnswer}
  {ans : List ChanAnswer} {r : List Byte}

theorem executeFrom_done (nTries : Byte) (delay i : Nat) (t : Byte) (rep : List (List Byte)) (ans : List ChanAnswer) :
    executeFrom nTries delay [] i t rep ans = some ([], .replies rep, ans) := by
  simp only [executeFrom]

theorem executeFrom_noAnswer (nTries : Byte) (delay : Nat) (st : SerStep) (rest : List SerStep) (i : Nat) (t : Byte)
    (rep : List (List Byte)) : executeFrom nTries delay (st :: rest) i t rep [] = none := by
  simp only [executeFrom]

theorem executeFrom_reply (hr : transferReply st.n a = some r) :
    executeFrom nTries delay (st :: rest) i t rep (a :: ans) =
      (executeFrom nTries delay rest (i + 1) 1 (rep ++ [r]) ans).map (fun e => (.transfer st.cmds st.n :: e.1, e.2)) := by
  simp only [executeFrom, hr]

theorem executeFrom_retry (hr : transferReply st.n a = none) (h : st.retry = true ∧ t < nTries) :
    executeFrom nTries delay (st :: rest) i t rep (a :: ans) =
      (executeFrom nTries delay (st :: rest) i (t + 1) rep ans).map
        (fun e => (.transfer st.cmds st.n :: .wait delay :: e.1, e.2)) := by
  simp only [executeFrom, hr, if_pos h]

theorem executeFrom_final (hr : transferReply st.n a = none) (h : ¬ (st.retry = true ∧ t < nTries)) :
    executeFrom nTries delay (st :: rest) i t rep (a :: ans) =
      some ([.transfer st.cmds st.n], .failed i t, ans) := by
  simp only [executeFrom, hr, if_neg h]

/-- How Execute goes on after an answer: with the next step, with the next attempt, or with the failure that ends it. -/
theorem executeFrom_cases {tr : List ChanOut} {e : ExecEnd} {left : List ChanAnswer}
    (h : executeFrom nTries delay (st :: rest) i t rep (a :: ans) = some (tr, e, left)) :
    (∃ r tr', transferReply st.n a = some r ∧ tr = .transfer st.cmds st.n :: tr' ∧
      executeFrom nTries delay rest (i + 1) 1 (rep ++ [r]) ans = some (tr', e, left)) ∨
    (transferReply st.n a = none ∧ (st.retry = true ∧ t < nTries) ∧
      ∃ tr', tr = .transfer st.cmds st.n :: .wait delay :: tr' ∧
        executeFrom nTries delay (st :: rest) i (t + 1) rep ans = some (tr', e, left)) ∨
    (transferReply st.n a = none ∧ ¬ (st.retry = true ∧ t < nTries) ∧
      tr = [.transfer st.cmds st.n] ∧ e = .failed i t ∧ left = ans) := by
  cases hr : transferReply st.n a with
  | some r =>
    rw [executeFrom_reply hr] at h
    obtain ⟨⟨tr', e', left'⟩, h', heq⟩ := Option.map_eq_some_iff.mp h
    cases heq
    exact .inl ⟨r, tr', rfl, rfl, h'⟩
  | none =>
    by_cases ht : st.retry = true ∧ t < nTries
    · rw [executeFrom_retry hr ht] at h
      obtain ⟨⟨tr', e', left'⟩, h', heq⟩ := Option.map_eq_some_iff.mp h
      cases heq
      exact .inr (.inl ⟨rfl, ht, tr', rfl, h'⟩)
    · rw [executeFrom_final hr ht] at h
      cases h
      exact .inr (.inr ⟨rfl, ht, rfl, rfl, rfl⟩)

/-- With a reply of the right length to each step, Execute makes one Transfer a step and ends with the replies. -/
theorem executeFrom_allOk (nTries : Byte) (delay : Nat) {plan : List SerStep} {reps : List (List Byte)}
    (h : reps.map List.length = plan.map SerStep.n) (i : Nat) (t : Byte) (rep : List (List Byte)) :
    executeFrom nTries delay plan i t rep (reps.map .ok) = some (planTransfers plan, .replies (rep ++ reps), []) := by
  induction plan generalizing reps i t rep with
  | nil =>
    obtain rfl : reps = [] := by simpa using h
    simp [executeFrom, planTransfers]
  | cons st plan ih =>
    cases reps with
    | nil => cases h
    | cons r reps =>
      obtain ⟨hr, hrest⟩ := List.cons.inj h
      have hreply : transferReply st.n (.ok r) = some r := hr ▸ transferReply_ok r
      rw [List.map_cons, executeFrom_reply hreply, ih hrest]
      simp [planTransfers]

end Execute

/-! The machine's moves through a request are those of Execute (40 R122). -/

/-- A request in flight is about to issue the first of the steps `rest` that its plan has left, and the channel's answers are next
among the turns. -/
structure Issuing (s : State) (rest : List SerStep) (ans : List ChanAnswer) (more : List Turn) : Prop where
  busy : s.serBusy = true
  phase : s.serPhase = .issue
  plan : s.serPlan.drop s.serIdx = rest
  turns : s.turns = answers ans ++ more

/-- `s` once the Transfer of its current step is issued. -/
def Machine.State.issued (s : State) (st : SerStep) : State :=
  { s with chanOut := s.chanOut ++ [.transfer st.cmds st.n], serPhase := .answer }

section Refinement

variable {s t : State} {st : SerStep} {rest : List SerStep} {a b : ChanAnswer}
  {ans : List ChanAnswer} {more : List Turn} {rep : List Byte} {res : Result}

theorem Issuing.current (h : Issuing s (st :: rest) ans more) : s.serPlan[s.serIdx]? = some st := by
  have h0 := List.getElem?_drop (xs := s.serPlan) (i := s.serIdx) (j := 0)
  rw [h.plan] at h0
  exact h0.symm

theorem Issuing.drop_succ (h : Issuing s (st :: rest) ans more) : s.serPlan.drop (s.serIdx + 1) = rest := by
  rw [← List.drop_drop, h.plan]
  rfl

theorem Issuing.length (h : Issuing s (st :: rest) ans more) : s.serPlan.length = s.serIdx + 1 + rest.length := by
  have hlen := congrArg List.length h.plan
  rw [List.length_drop, List.length_cons] at hlen
  omega

/-- The channel's answer, next among the turns, leaves the issuing of the Transfer to the block. -/
theorem Issuing.reaches_issued (h : Issuing s (st :: rest) (a :: ans) more) :
    Reaches s [.transfer st.cmds st.n] [] (s.issued st) :=
  .of_step (step_issue h.busy h.phase h.current (.inr ⟨rfl, .inr ⟨a, answers ans ++ more, h.turns⟩⟩)) rfl
    (List.append_nil _).symm rfl

theorem Issuing.reaches_nextStep (h : Issuing s (st :: rest) (a :: ans) more) (hne : rest ≠ [])
    (hr : transferReply st.n a = some rep) :
    Reaches s [.transfer st.cmds st.n] [] ({ s.issued st with turns := answers ans ++ more }.nextStep rep) := by
  have hlt : s.serIdx + 1 < s.serPlan.length := by
    have := List.length_pos_iff.mpr hne
    have := h.length
    omega
  have hstep := (step_reply (s := s.issued st) h.busy rfl h.current h.turns hr).trans (stepDone_advance hlt)
  exact h.reaches_issued.trans (.of_quiet_step hstep rfl rfl rfl)

theorem Issuing.nextStep (h : Issuing s (st :: rest) (a :: ans) more) (rep : List Byte) :
    Issuing ({ s.issued st with turns := answers ans ++ more }.nextStep rep) rest ans more :=
  ⟨h.busy, rfl, h.drop_succ, rfl⟩

theorem Issuing.completes_replies (h : Issuing s [st] [a] more) (hr : transferReply st.n a = some rep)
    (hres : requestResult s.gen s.serReq (s.serRep ++ [rep]) = some res) :
    Completes s [.transfer st.cmds st.n] res more := by
  have hstep := (step_reply (s := s.issued st) h.busy rfl h.current h.turns hr).trans
    (stepDone_finish h.length.le hres)
  exact h.reaches_issued.completes ⟨_, .of_step hstep (List.append_nil _).symm rfl rfl, rfl, rfl⟩

/-- `s` at the next attempt of its current step, once the Transfer and the Wait are made. -/
def Machine.State.retried (s : State) (st : SerStep) (ts : List Turn) : State :=
  { s.issued st with
    chanOut := (s.issued st).chanOut ++ [.wait s.par.retryDelay], serTry := s.serTry + 1, serPhase := .issue, turns := ts }

theorem Issuing.reaches_retried (h : Issuing s (st :: rest) (a :: b :: ans) more) (hr : transferReply st.n a = none)
    (ht : st.retry = true ∧ s.serTry < s.par.nTries) :
    Reaches s [.transfer st.cmds st.n, .wait s.par.retryDelay] [] (s.retried st (answers (b :: ans) ++ more)) := by
  let due : State := { s.issued st with turns := answers (b :: ans) ++ more, serPhase := .wait }
  have hfail : step (s.issued st) = .next due :=
    (step_failed (s := s.issued st) h.busy rfl h.current h.turns hr).trans (stepFailed_retry ht)
  have hwait : step due = .next (s.retried st (answers (b :: ans) ++ more)) :=
    step_wait (s := due) h.busy rfl (.inr ⟨rfl, .inr ⟨b, answers ans ++ more, rfl⟩⟩)
  have hdue : Reaches (s.issued st) [] [] due := .of_quiet_step hfail rfl rfl rfl
  exact (h.reaches_issued.trans hdue).trans (.of_step hwait rfl (List.append_nil _).symm rfl)

theorem Issuing.retried (h : Issuing s (st :: rest) (a :: ans) more) :
    Issuing (s.retried st (answers ans ++ more)) (st :: rest) ans more :=
  ⟨h.busy, rfl, h.plan, rfl⟩

theorem Issuing.completes_failed (h : Issuing s (st :: rest) [a] more) (hr : transferReply st.n a = none)
    (ht : ¬ (st.retry = true ∧ s.serTry < s.par.nTries)) :
    Completes s [.transfer st.cmds st.n] (.err (.transferFail s.serIdx s.serTry)) more := by
  have hstep := (step_failed (s := s.issued st) h.busy rfl h.current h.turns hr).trans (stepFailed_final ht)
  exact h.reaches_issued.completes ⟨_, .of_step hstep (List.append_nil _).symm rfl rfl, rfl, rfl⟩

/-- What Execute does from the current step on, the machine does too. -/
theorem Issuing.completes (h : Issuing s rest ans more) (hne : rest ≠ []) {tr : List ChanOut} {e : ExecEnd}
    (hex : executeFrom s.par.nTries s.par.retryDelay rest s.serIdx s.serTry s.serRep ans = some (tr, e, []))
    (hend : endResult s.gen s.serReq e = some res) : Completes s tr res more := by
  induction ans generalizing s rest tr with
  | nil =>
    obtain ⟨st, rest, rfl⟩ := List.exists_cons_of_ne_nil hne
    rw [executeFrom_noAnswer] at hex
    cases hex
  | cons a ans ih =>
    obtain ⟨st, rest, rfl⟩ := List.exists_cons_of_ne_nil hne
    rcases executeFrom_cases hex with ⟨rep, tr', hr, rfl, hex'⟩ | ⟨hr, ht, tr', rfl, hex'⟩ | ⟨hr, ht, rfl, rfl, rfl⟩
    · by_cases hrest : rest = []
      · subst hrest
        rw [executeFrom_done] at hex'
        cases hex'
        exact h.completes_replies hr hend
      · exact (h.reaches_nextStep hrest hr).completes (ih (h.nextStep rep) hrest hex' hend)
    · cases ans with
      | nil => rw [executeFrom_noAnswer] at hex'; cases hex'
      | cons b ans => exact (h.reaches_retried hr ht).completes (ih h.retried hne hex' hend)
    · cases hend
      exact h.completes_failed hr ht

theorem AtStart.issuing {plan : List SerStep} (h : AtStart s plan) (ht : s.turns = answers ans ++ more) :
    Issuing s plan ans more := by
  obtain ⟨hb, hplan, hidx, -, -, hph⟩ := h
  exact ⟨hb, hph, by rw [hplan, hidx, List.drop_zero], ht⟩

theorem AtStart.completes {plan : List SerStep} (h : AtStart s plan) (hne : plan ≠ [])
    (ht : s.turns = answers ans ++ more) {tr : List ChanOut} {e : ExecEnd}
    (hex : execute s.par.nTries s.par.retryDelay plan ans = some (tr, e, []))
    (hend : endResult s.gen s.serReq e = some res) : Completes s tr res more := by
  have hi := h.issuing ht
  obtain ⟨-, -, hidx, htry, hrep, -⟩ := h
  exact hi.completes hne (by rw [hidx, htry, hrep]; exact hex) hend

/-- A request runs to its result when every Transfer of its plan is answered with a reply of the right length. -/
theorem Machine.Starts.completes {r : Req} {plan : List SerStep} {w : TxWord} {reps : List (List Byte)} (h : Starts s r plan)
    (hp : Presents s w (okTurns reps ++ more)) (hw : decodeTx w = .ok r.instr) (hne : plan ≠ [])
    (hlen : reps.map List.length = plan.map SerStep.n) (hres : requestResult s.gen r reps = some res) :
    Completes s (planTransfers plan) res more := by
  let started : State := { s with turns := okTurns reps ++ more }.startRequest r plan
  have hstart : step s = .next started := by
    rw [step_presents hp, accept_ok hw]
    exact (h.withTurns _).exec_instr
  have hreach : Reaches s [] [] started := .of_quiet_step hstart rfl rfl rfl
  have hat : AtStart started plan := ⟨rfl, rfl, rfl, rfl, rfl, rfl⟩
  exact hreach.completes (hat.completes hne rfl (executeFrom_allOk _ _ hlen 0 1 []) hres)

theorem Completes.exists_run {tr : List ChanOut} (h : Completes s tr res more) :
    ∃ (k : Nat) (t : State), Host.Core.run core k s = .next t ∧ t.serBusy = false ∧ t.turns = more ∧
      t.chanOut = s.chanOut ++ tr ∧ t.results = s.results ++ [res] ∧ SameBlock s t := by
  obtain ⟨t, ⟨⟨k, hk⟩, hc, hr, hs⟩, hidle, hmore⟩ := h
  exact ⟨k, t, hk, hidle, hmore, hc, hr, hs⟩

end Refinement

/-- Settles O45: the machine follows Execute answer by answer, from the start of the request. -/
theorem requestRefinesExecute : Obligations.RequestRefinesExecute := fun _ _ _ _ _ _ _ hat hne ht hex hend =>
  (hat.completes hne ht hex hend).exists_run

/-- Settles O47: each request starts its plan, and Execute ends with the replies when all of them are Ok. -/
theorem requestsCompleteWhenAnswered : Obligations.RequestsCompleteWhenAnswered := by
  intro i plan res s w reps more r0 r1 r2 hp hw hreq hne hlen
  rcases hreq with ⟨g, a, v, hg, ha, rfl, rfl, rfl⟩ | ⟨hlast, ⟨g, a, hg, ha, rfl, rfl, rfl⟩ | ⟨g, q, hg, rfl, rfl, rfl⟩ |
    ⟨q, rfl, rfl, rfl⟩⟩
  · obtain ⟨hv, hgen⟩ := gen_eq_some_iff.mp hg
    exact ((Starts.write g a v hv hgen ha).completes hp hw hne hlen (requestResult_write ..)).exists_run
  · obtain ⟨hv, hgen⟩ := gen_eq_some_iff.mp hg
    exact ((Starts.read g a hv hgen ha).completes hp hw hne hlen (requestResult_read_of_gen hg a hlast)).exists_run
  · obtain ⟨hv, hgen⟩ := gen_eq_some_iff.mp hg
    exact ((Starts.query g q hv hgen).completes hp hw hne hlen (requestResult_query s.gen q hlast)).exists_run
  · exact ((Starts.sliced q).completes hp hw hne hlen (requestResult_slicedQuery s.gen q hlast)).exists_run

/-- Settles O48: the write completes, leaves the read presented, and the read completes. -/
theorem registerRoundTrip : Obligations.RegisterRoundTrip := by
  intro s g a v r0 r1 r2 wWord rWord wReps rReps more htab hg ha hwWord hrWord hwReps hrReps hv4 hv hp
  obtain ⟨hvalid, hgen⟩ := gen_eq_some_iff.mp hg
  obtain ⟨t, hwrite, hidle, hturns⟩ := (Starts.write g a v hvalid hgen ha).completes hp hwWord
    (writePlan_ne_nil htab g a v) (by rw [hwReps, writePlan_map_n htab]; simp) (requestResult_write ..)
  have hpar := hwrite.same.par
  have hg' : t.gen = some g := hwrite.same.gen.trans hg
  obtain ⟨hvalid', hgen'⟩ := gen_eq_some_iff.mp hg'
  obtain ⟨-, hwait, -⟩ := hp
  have hval : (if g = .v4 then r1 else r0) = v := by
    split
    · next h4 => exact hv4 h4
    · next h4 => exact hv h4
  have hres : requestResult t.gen (.read a) rReps = some (.okByte v) := by
    rw [requestResult_read_of_gen hg' a (by rw [hrReps, List.getLast?_concat]), hval]
  obtain ⟨u, hread, hidle', hturns'⟩ := (Starts.read g a hvalid' hgen' ha).completes
    ⟨hidle, hwrite.same.waiting.trans hwait, hturns⟩ hrWord (readPlan_ne_nil (hpar ▸ htab) g a)
    (by rw [hrReps, hpar, readPlan_map_n htab]; simp) hres
  obtain ⟨⟨k, hk⟩, hc, hr, -⟩ := hwrite.trans hread
  exact ⟨k, u, hk, hidle', hturns', hr, by rw [hc, hpar, List.append_assoc]⟩

end Sys2Proof

/-! Execute's bounds (40 R122): the attempts of each step, and the Transfers and Waits they make. -/

namespace Sys2Proof

open Machine

/-- The attempts of a step that k failures precede are allowed: at most max(1, N_TRIES), and one on a step that is not retried. -/
def AttemptsAllowed (nTries : Byte) (st : SerStep) (k : Nat) : Prop :=
  k + 1 ≤ max 1 nTries.toNat ∧ (st.retry = false → k = 0)

/-- Execute of the steps `plan`, the first of them step i, put `tr` on the channel and ended with `e`; `ks` says of each step made
how many of its attempts failed before the last. -/
structure Attempts (nTries : Byte) (delay : Nat) (plan : List SerStep) (i : Nat) (tr : List ChanOut) (e : ExecEnd)
    (ks : List Nat) : Prop where
  trace : tr = (List.zipWith (stepTrace delay) plan ks).flatten
  made : ks.length ≤ plan.length
  allowed : ∀ (j k : Nat) (st : SerStep), plan[j]? = some st → ks[j]? = some k → AttemptsAllowed nTries st k
  replies : ∀ rep, e = .replies rep → ks.length = plan.length
  failed : ∀ i' a, e = .failed i' a → ∃ m k, i' = i + m ∧ ks.length = m + 1 ∧ ks[m]? = some k ∧ a.toNat = k + 1

/-- Every Wait stands between two Transfers of one retried step of the plan. -/
def WaitsBetween (plan : List SerStep) (tr : List ChanOut) : Prop :=
  ∀ (j d : Nat), tr[j]? = some (.wait d) →
    0 < j ∧ ∃ st ∈ plan, st.retry = true ∧
      tr[j - 1]? = some (.transfer st.cmds st.n) ∧ tr[j + 1]? = some (.transfer st.cmds st.n)

section Bounds

variable {nTries : Byte} {delay i k : Nat} {plan : List SerStep} {st : SerStep} {tr tr' : List ChanOut} {e : ExecEnd}
  {ks : List Nat} {rep : List (List Byte)} {ans left : List ChanAnswer}

theorem stepTrace_zero (delay : Nat) (st : SerStep) : stepTrace delay st 0 = [.transfer st.cmds st.n] := rfl

theorem stepTrace_succ (delay : Nat) (st : SerStep) (k : Nat) :
    stepTrace delay st (k + 1) = .transfer st.cmds st.n :: .wait delay :: stepTrace delay st k := by
  simp [stepTrace, List.replicate_succ]

theorem stepTrace_countP_isTransfer (delay : Nat) (st : SerStep) (k : Nat) :
    (stepTrace delay st k).countP ChanOut.isTransfer = k + 1 := by
  induction k with
  | zero => rfl
  | succ k ih => simp [stepTrace_succ, List.countP_cons, ih, ChanOut.isTransfer]

theorem stepTrace_countP_wait (delay : Nat) (st : SerStep) (k : Nat) :
    (stepTrace delay st k).countP (fun o => o == .wait delay) = k := by
  induction k with
  | zero => rfl
  | succ k ih => simp [stepTrace_succ, ih]

theorem stepTrace_length (delay : Nat) (st : SerStep) (k : Nat) : (stepTrace delay st k).length = 2 * k + 1 := by
  induction k with
  | zero => rfl
  | succ k ih => simp only [stepTrace_succ, List.length_cons, ih]; omega

/-- Execute of a plan from attempt t of its first step: that step's trace, then Execute of the rest, or the failure that ends it. -/
theorem executeFrom_cons {t : Byte} {rest : List SerStep}
    (h : executeFrom nTries delay (st :: rest) i t rep ans = some (tr, e, left)) :
    ∃ k tr', tr = stepTrace delay st k ++ tr' ∧ t.toNat + k ≤ max t.toNat nTries.toNat ∧ (st.retry = false → k = 0) ∧
      ((∃ rep' ans', executeFrom nTries delay rest (i + 1) 1 rep' ans' = some (tr', e, left)) ∨
        (tr' = [] ∧ ∃ a, e = .failed i a ∧ a.toNat = t.toNat + k)) := by
  induction ans generalizing t tr with
  | nil =>
    rw [executeFrom_noAnswer] at h
    cases h
  | cons a ans ih =>
    rcases executeFrom_cases h with ⟨r, tr', -, rfl, h'⟩ | ⟨-, ⟨hretry, hlt⟩, tr', rfl, h'⟩ | ⟨-, -, rfl, rfl, rfl⟩
    · exact ⟨0, tr', rfl, le_max_left .., fun _ => rfl, .inl ⟨_, _, h'⟩⟩
    · have hlt' := BitVec.lt_def.mp hlt
      have hsucc : (t + 1).toNat = t.toNat + 1 := by bv_omega
      obtain ⟨k, tr'', rfl, hk, -, hend⟩ := ih h'
      rw [hsucc] at hk hend
      refine ⟨k + 1, tr'', by rw [stepTrace_succ]; rfl, by omega, fun hf => absurd (hretry.symm.trans hf) (by decide), ?_⟩
      rwa [Nat.add_right_comm, Nat.add_assoc] at hend
    · exact ⟨0, [], rfl, le_max_left .., fun _ => rfl, .inr ⟨rfl, t, rfl, rfl⟩⟩

theorem Attempts.nil (nTries : Byte) (delay i : Nat) (rep : List (List Byte)) :
    Attempts nTries delay [] i [] (.replies rep) [] where
  trace := rfl
  made := Nat.le_refl 0
  allowed j k st hst := by simp at hst
  replies _ _ := rfl
  failed _ _ he := by cases he

theorem Attempts.cons (h : Attempts nTries delay plan (i + 1) tr e ks) (hk : AttemptsAllowed nTries st k) :
    Attempts nTries delay (st :: plan) i (stepTrace delay st k ++ tr) e (k :: ks) where
  trace := by rw [h.trace]; rfl
  made := Nat.succ_le_succ h.made
  allowed j k' st' hst hk' := by
    cases j with
    | zero => cases hst; cases hk'; exact hk
    | succ j => exact h.allowed j k' st' hst hk'
  replies r he := congrArg (· + 1) (h.replies r he)
  failed i' a he := by
    obtain ⟨m, k', hi, hm, hk', ha⟩ := h.failed i' a he
    exact ⟨m + 1, k', by omega, congrArg (· + 1) hm, hk', ha⟩

theorem Attempts.last {a : Byte} (plan : List SerStep) (hk : AttemptsAllowed nTries st k) (ha : a.toNat = k + 1) :
    Attempts nTries delay (st :: plan) i (stepTrace delay st k) (.failed i a) [k] where
  trace := by simp
  made := by simp
  allowed j k' st' hst hk' := by
    cases j with
    | zero => cases hst; cases hk'; exact hk
    | succ j => simp at hk'
  replies _ he := by cases he
  failed i' a' he := by cases he; exact ⟨0, k, rfl, rfl, rfl, ha⟩

theorem attempts_of_executeFrom (h : executeFrom nTries delay plan i 1 rep ans = some (tr, e, left)) :
    ∃ ks, Attempts nTries delay plan i tr e ks := by
  induction plan generalizing i rep ans tr with
  | nil =>
    rw [executeFrom_done] at h
    cases h
    exact ⟨[], .nil ..⟩
  | cons st plan ih =>
    obtain ⟨k, tr', rfl, hk, honce, ⟨rep', ans', hrest⟩ | ⟨rfl, a, rfl, ha⟩⟩ := executeFrom_cons h
    · obtain ⟨ks, hks⟩ := ih hrest
      exact ⟨k :: ks, hks.cons ⟨(Nat.add_comm ..).trans_le hk, honce⟩⟩
    · rw [List.append_nil]
      exact ⟨[k], .last plan ⟨(Nat.add_comm ..).trans_le hk, honce⟩ (ha.trans (Nat.add_comm ..))⟩

/-- Each part of the trace is that of a step of the plan, with attempts that are allowed. -/
theorem Attempts.exists_step (h : Attempts nTries delay plan i tr e ks) {l : List ChanOut}
    (hl : l ∈ List.zipWith (stepTrace delay) plan ks) :
    ∃ st ∈ plan, ∃ k, AttemptsAllowed nTries st k ∧ l = stepTrace delay st k := by
  obtain ⟨j, hj⟩ := List.mem_iff_getElem?.mp hl
  obtain ⟨st, k, hst, hk, rfl⟩ := List.getElem?_zipWith_eq_some.mp hj
  exact ⟨st, List.mem_of_getElem? hst, k, h.allowed j k st hst hk, rfl⟩

/-- What is at most c of each step's trace is at most c for each step of the plan in the sum. -/
theorem Attempts.sum_le (h : Attempts nTries delay plan i tr e ks) {f : List ChanOut → Nat} {c : Nat}
    (hf : ∀ st k, AttemptsAllowed nTries st k → f (stepTrace delay st k) ≤ c) :
    ((List.zipWith (stepTrace delay) plan ks).map f).sum ≤ plan.length * c := by
  have hsum := List.sum_le_card_nsmul ((List.zipWith (stepTrace delay) plan ks).map f) c fun x hx => by
    obtain ⟨l, hl, rfl⟩ := List.mem_map.mp hx
    obtain ⟨st, -, k, hk, rfl⟩ := h.exists_step hl
    exact hf st k hk
  rw [List.length_map, List.length_zipWith, smul_eq_mul] at hsum
  exact hsum.trans (Nat.mul_le_mul_right c (Nat.min_le_left ..))

theorem Attempts.transfers_le (h : Attempts nTries delay plan i tr e ks) :
    tr.countP ChanOut.isTransfer ≤ plan.length * max 1 nTries.toNat := by
  rw [h.trace, List.countP_flatten]
  refine h.sum_le fun st k hk => ?_
  rw [stepTrace_countP_isTransfer]
  exact hk.1

theorem Attempts.waits_le (h : Attempts nTries delay plan i tr e ks) :
    tr.countP (fun o => o == .wait delay) ≤ plan.length * (nTries.toNat - 1) := by
  rw [h.trace, List.countP_flatten]
  refine h.sum_le fun st k hk => ?_
  rw [stepTrace_countP_wait]
  have := hk.1
  omega

theorem Attempts.length_le (h : Attempts nTries delay plan i tr e ks) :
    tr.length ≤ plan.length * (2 * max 1 nTries.toNat - 1) := by
  rw [h.trace, List.length_flatten]
  refine h.sum_le fun st k hk => ?_
  rw [stepTrace_length]
  have := hk.1
  omega

theorem WaitsBetween.append (h : WaitsBetween plan tr) (h' : WaitsBetween plan tr') : WaitsBetween plan (tr ++ tr') := by
  intro j d hj
  rcases Nat.lt_or_ge j tr.length with hlt | hge
  · rw [List.getElem?_append_left hlt] at hj
    obtain ⟨hpos, st, hst, hr, hbefore, hafter⟩ := h j d hj
    have hlt' : j + 1 < tr.length := (List.getElem?_eq_some_iff.mp hafter).1
    exact ⟨hpos, st, hst, hr, by rwa [List.getElem?_append_left (by omega)], by rwa [List.getElem?_append_left hlt']⟩
  · rw [List.getElem?_append_right hge] at hj
    obtain ⟨hpos, st, hst, hr, hbefore, hafter⟩ := h' (j - tr.length) d hj
    refine ⟨by omega, st, hst, hr, ?_, ?_⟩
    · rw [List.getElem?_append_right (by omega)]
      rwa [Nat.sub_right_comm] at hbefore
    · rw [List.getElem?_append_right (by omega)]
      rwa [← Nat.sub_add_comm hge] at hafter

theorem WaitsBetween.flatten {ls : List (List ChanOut)} (h : ∀ l ∈ ls, WaitsBetween plan l) :
    WaitsBetween plan ls.flatten := by
  induction ls with
  | nil => intro j d hj; simp at hj
  | cons l ls ih =>
    obtain ⟨hl, hls⟩ := List.forall_mem_cons.mp h
    exact hl.append (ih hls)

/-- A retry puts a Wait between its Transfer and the first of the attempts that follow. -/
theorem waitsBetween_stepTrace (delay : Nat) (hst : st ∈ plan) (honce : st.retry = false → k = 0) :
    WaitsBetween plan (stepTrace delay st k) := by
  induction k with
  | zero => intro j d hj; cases j <;> cases hj
  | succ k ih =>
    have hr : st.retry = true := Bool.of_not_eq_false fun hf => Nat.succ_ne_zero k (honce hf)
    rw [stepTrace_succ]
    intro j d hj
    match j with
    | 0 => cases hj
    | 1 => exact ⟨Nat.one_pos, st, hst, hr, rfl, by cases k <;> rfl⟩
    | j + 2 =>
      obtain ⟨hpos, st', hst', hr', hbefore, hafter⟩ := ih (fun hf => absurd (hr.symm.trans hf) (by decide)) j d hj
      obtain ⟨j, rfl⟩ := Nat.exists_eq_add_of_lt hpos
      exact ⟨Nat.succ_pos _, st', hst', hr', by simpa using hbefore, hafter⟩

theorem Attempts.waitsBetween (h : Attempts nTries delay plan i tr e ks) : WaitsBetween plan tr := by
  rw [h.trace]
  refine .flatten fun l hl => ?_
  obtain ⟨st, hst, k, ⟨-, honce⟩, rfl⟩ := h.exists_step hl
  exact waitsBetween_stepTrace delay hst honce

end Bounds

/-- Settles O46: the attempts of each step are read off Execute step by step, and the counts are sums over the steps. -/
theorem retriesAreBounded : Obligations.RetriesAreBounded := by
  intro nTries delay plan ans rest tr e h
  obtain ⟨ks, hks⟩ := attempts_of_executeFrom h
  refine ⟨⟨ks, hks.trace, hks.made, hks.allowed, hks.replies, fun i a he => ?_⟩, hks.transfers_le, hks.waits_le,
    hks.length_le, hks.waitsBetween⟩
  obtain ⟨m, k, hi, hlen, hk, ha⟩ := hks.failed i a he
  obtain rfl : i = m := hi.trans (Nat.zero_add m)
  exact ⟨hlen, k, hk, ha⟩

end Sys2Proof

/-! The host's reference functions in arithmetic: the generation map, the signature check and the packed bounds; PROFILE_LOAD of
a mapped firmware (41 R160, R165, R171, R176, R183). -/

namespace Sys2Proof

open Machine

/-- `GenOf` with its tests on the firmware and its version field as numbers (41 R160). -/
theorem genOf_eq (fw : Firmware) : genOf fw =
    if fw.toNat < 0x020030 ∨ fw.toNat = 0x020600 then some .v1
    else if fw.toNat / 2 ^ 16 % 16 = 2 ∨ fw.toNat / 2 ^ 16 % 16 = 4 then some .v2
    else if fw.toNat / 2 ^ 16 % 16 = 5 then some .v3
    else if 6 ≤ fw.toNat / 2 ^ 16 % 16 then some .v4
    else none := by
  simp [genOf, ← BitVec.toNat_inj, BitVec.lt_def, BitVec.le_def, Nat.shiftRight_eq_div_pow]

/-- Settles O13: the version field decides, below the two tests on the whole number. -/
theorem generationMap : Obligations.GenerationMap := by
  intro fw
  rw [genOf_eq]
  have hn : fw.toNat / 2 ^ 16 % 16 < 16 := Nat.mod_lt _ (by decide)
  generalize fw.toNat / 2 ^ 16 % 16 = n at hn ⊢
  split_ifs <;> simp <;> omega

/-- Settles O14: whether the firmware has a generation is the only case split of PROFILE_LOAD. -/
theorem profileLoadMappedResult : Obligations.ProfileLoadMappedResult := by
  intro fw s1 tp ymax s hg
  obtain ⟨g, hg⟩ := Option.ne_none_iff_exists'.mp hg
  simp only [exec, execProfileLoad, hg]
  rfl

theorem mem_legacyRates {b : Byte} : b ∈ legacyRates ↔ b.toNat ∈ [200, 100, 80, 60, 40, 20, 10] := by
  simp [legacyRates, ← BitVec.toNat_inj]

/-- The nibble test of the signature, as a number (41 R171). -/
theorem six_le_lowNibble {b : Byte} : 0x06 ≤ b &&& 0x0F ↔ 6 ≤ b.toNat % 16 := by
  rw [BitVec.le_def, BitVec.toNat_and]
  exact (congrArg (6 ≤ ·) (Nat.and_two_pow_sub_one_eq_mod b.toNat 4)).to_iff

theorem sigValid_iff {b0 b1 b2 : Byte} : sigValid b0 b1 b2 = true ↔
    b0 ≠ 0 ∧ (b1 = 0 ∨ (0x06 ≤ b0 &&& 0x0F ∧ b1 &&& 0xAF = 0x0F ∧ b2 < 40) ∨ b2 ∉ legacyRates) := by
  unfold sigValid
  split_ifs with h0 h1 h2
  · exact iff_of_false not_false fun h => h.1 h0
  · exact iff_of_true rfl ⟨h0, .inl h1⟩
  · exact iff_of_true rfl ⟨h0, .inr (.inl h2)⟩
  · have hc : (!legacyRates.contains b2) = true ↔ b2 ∉ legacyRates := by simp
    exact hc.trans ⟨fun h => ⟨h0, .inr (.inr h)⟩, fun ⟨_, h⟩ => (h.resolve_left h1).resolve_left h2⟩

/-- Settles O57: each test is that of the closed form, as numbers. -/
theorem signatureCheck : Obligations.SignatureCheck := by
  intro b0 b1 b2
  have eq_zero {b : Byte} : b = 0 ↔ b.toNat = 0 := BitVec.toNat_inj.symm
  rw [sigValid_iff, six_le_lowNibble, mem_legacyRates, BitVec.lt_def, Ne, eq_zero, eq_zero]
  rfl

theorem toNat_append_byte {w : Nat} (x : BitVec w) (b : Byte) : (x ++ b).toNat = x.toNat * 256 + b.toNat := by
  rw [BitVec.toNat_append, ← Nat.shiftLeft_add_eq_or_of_lt b.isLt, Nat.shiftLeft_eq]

theorem packedXMax_toNat (r : Reply3) : (packedXMax r).toNat = r.b0.toNat % 16 * 256 + r.b1.toNat := by
  simp [packedXMax, toNat_append_byte]

theorem packedYMax_toNat (r : Reply3) : (packedYMax r).toNat = r.b0.toNat / 16 * 256 + r.b2.toNat := by
  have hb := r.b0.isLt
  simp [packedYMax, toNat_append_byte, Nat.shiftRight_eq_div_pow]
  omega

theorem ymaxOperand_natCast {n : Nat} (h : n < 65536) : (ymaxOperand n).toNat = n := by
  unfold ymaxOperand
  rw [if_pos (by omega), BitVec.ofInt_natCast, BitVec.toNat_ofNat, Nat.mod_eq_of_lt h]

/-- A y_max of 16 bits is PROFILE_LOAD's operand (41 R183). -/
theorem profileOf_yMax {p : DeviceProfile} {n : Nat} (hn : n < 65536) (hp : p.bounds.yMax = n) :
    ∃ ymax : BitVec 16, ymax.toNat = n ∧ profileOf p = .profileLoad p.fw p.samples.b1 p.tp ymax :=
  ⟨ymaxOperand n, ymaxOperand_natCast hn, by rw [profileOf, hp]⟩

/-- Settles O58: the fields are appended as numbers, and 16 bits hold what PROFILE_LOAD is given. -/
theorem boundsPacking : Obligations.BoundsPacking := by
  refine ⟨fun r => ⟨packedXMax_toNat r, packedYMax_toNat r⟩, fun p hlo hhi => ?_, fun hp r p hb => ?_⟩
  · obtain ⟨n, hn⟩ := Int.eq_ofNat_of_zero_le hlo
    obtain ⟨ymax, hy, hload⟩ := profileOf_yMax (p := p) (n := n) (by omega) hn
    exact ⟨ymax, by rw [hy, hn], hload⟩
  · exact profileOf_yMax (Nat.lt_trans (packedYMax r).isLt (by decide)) (by rw [hb]; rfl)

end Sys2Proof

/-! The traces and the resolution conversion (41 R177 to R179). -/

namespace Sys2Proof

open Machine

theorem traceWidth_ok {traces xMax w : Nat} :
    traceWidth traces xMax = .ok w ↔ (2 ≤ traces ∧ traces ≤ xMax) ∧ w = xMax / (traces - 1) := by
  unfold traceWidth
  split_ifs with h
  · simp [h, eq_comm]
  · simp [h]

theorem traceWidth_error {traces xMax : Nat} {e : Err} :
    traceWidth traces xMax = .error e ↔ ¬ (2 ≤ traces ∧ traces ≤ xMax) ∧ e = .geometryFail := by
  unfold traceWidth
  split_ifs with h
  · simp [h]
  · simp [h, eq_comm]

theorem rowTraces_eq_some {c yMax : Nat} : rowTraces c yMax = some c ↔ 2 ≤ c ∧ c ≤ yMax :=
  ite_eq_left_iff.trans (by simp)

theorem rowTraces_eq_none {c yMax : Nat} : rowTraces c yMax = none ↔ ¬ (2 ≤ c ∧ c ≤ yMax) :=
  ite_eq_right_iff.trans (by simp)

theorem traceGeometry_ok {caps fwid : Reply3} {t : TraceGeometry} :
    traceGeometry caps fwid = .ok t ↔ ∃ w, traceWidth caps.b1.toNat (packedXMax fwid).toNat = .ok w ∧
      t = ⟨caps.b1.toNat, w, rowTraces caps.b2.toNat (packedYMax fwid).toNat⟩ := by
  unfold traceGeometry
  cases traceWidth caps.b1.toNat (packedXMax fwid).toNat <;> simp [eq_comm]

theorem traceGeometry_error {caps fwid : Reply3} {e : Err} (h : traceGeometry caps fwid = .error e) :
    e = .geometryFail := by
  unfold traceGeometry at h
  split at h
  · cases h
  · rename_i hw
    cases h
    exact (traceWidth_error.mp hw).2

theorem le_and_lt_of_eq_div {w n d : Nat} (hd : 0 < d) (h : w = n / d) : w * d ≤ n ∧ n < (w + 1) * d :=
  ⟨(Nat.le_div_iff_mul_le hd).mp h.le, (Nat.div_lt_iff_lt_mul hd).mp (h ▸ Nat.lt_succ_self _)⟩

/-- Settles O59: each quotient is the floor of a division, and the geometry is the two trace rules together. -/
theorem traceAndResolutionRules : Obligations.TraceAndResolutionRules := by
  refine ⟨fun traces xMax c yMax => ⟨?_, fun w h => ?_, fun e h => (traceWidth_error.mp h).2, rowTraces_eq_some,
    rowTraces_eq_none⟩, fun caps fwid t => ?_, fun n => ?_, by decide⟩
  · simp [traceWidth_ok]
  · obtain ⟨⟨hlo, -⟩, hw⟩ := traceWidth_ok.mp h
    exact le_and_lt_of_eq_div (by omega) hw
  · obtain ⟨x, w, y⟩ := t
    simp only [traceGeometry_ok, traceWidth_ok, TraceGeometry.mk.injEq, rowTraces]
    constructor
    · rintro ⟨_, ⟨⟨hlo, hhi⟩, rfl⟩, rfl, rfl, rfl⟩
      exact ⟨hlo, hhi, rfl, rfl, rfl⟩
    · rintro ⟨hlo, hhi, rfl, rfl, rfl⟩
      exact ⟨_, ⟨⟨hlo, hhi⟩, rfl⟩, rfl, rfl, rfl⟩
  · obtain ⟨hlo, hhi⟩ := le_and_lt_of_eq_div (w := convertRes n) (by decide : 0 < 254) rfl
    omega

end Sys2Proof

/-! Detection and resolution (41 R170 to R173, R177, R181, R182). -/

namespace Sys2Proof

open Machine

theorem checkKnock_ok_iff_goodKnock {knock : Option Reply3} : checkKnock knock = .ok () ↔ GoodKnock knock := by
  simp only [checkKnock_ok, GoodKnock, knockOK, Bool.and_eq_true, Bool.or_eq_true, beq_iff_eq, and_assoc]

theorem checkKnock_of_not_goodKnock {knock : Option Reply3} (h : ¬ GoodKnock knock) :
    checkKnock knock = .error .notElantech := by
  rw [← checkKnock_ok_iff_goodKnock] at h
  cases knock with
  | none => rfl
  | some k => exact if_neg fun hk => h (if_pos hk)

theorem firmwareOf_ok {fwver : Except Err Reply3} {fw : Firmware} :
    firmwareOf fwver = .ok fw ↔
      ∃ r, fwver = .ok r ∧ sigValid r.b0 r.b1 r.b2 = true ∧ firmwareVersion r.b0 r.b1 r.b2 = fw := by
  cases fwver with
  | error e => simp [firmwareOf]
  | ok r => cases h : sigValid r.b0 r.b1 r.b2 <;> simp [firmwareOf, h]

theorem firmwareOf_error {fwver : Except Err Reply3} {e : Err} :
    firmwareOf fwver = .error e ↔
      fwver = .error e ∨ ∃ r, fwver = .ok r ∧ sigValid r.b0 r.b1 r.b2 = false ∧ e = .notElantech := by
  cases fwver with
  | error e' => simp [firmwareOf]
  | ok r => cases h : sigValid r.b0 r.b1 r.b2 <;> simp [firmwareOf, h, eq_comm (a := e)]

/-- `firmware_version`, first byte highest (41 R172). -/
theorem firmwareVersion_eq_iff {b0 b1 b2 : Byte} {fw : Firmware} :
    firmwareVersion b0 b1 b2 = fw ↔ fw.toNat = b0.toNat * 65536 + b1.toNat * 256 + b2.toNat := by
  rw [← BitVec.toNat_inj, firmwareVersion, toNat_append_byte, toNat_append_byte]
  omega

theorem detect_ok_iff {knock : Option Reply3} {fwver : Except Err Reply3} {fw : Firmware} :
    detect knock fwver = .ok fw ↔
      GoodKnock knock ∧ ∃ r : Reply3, fwver = .ok r ∧ sigValid r.b0 r.b1 r.b2 = true ∧
        fw.toNat = r.b0.toNat * 65536 + r.b1.toNat * 256 + r.b2.toNat := by
  simp only [detect_ok, checkKnock_ok_iff_goodKnock, firmwareOf_ok, firmwareVersion_eq_iff]

theorem knownBug_eq_false {fw : Firmware} {s1 : Byte} : knownBug fw s1 = false ↔ ¬ (genOf fw = some .v3 ∧ s1 = 0x74) := by
  simp [knownBug]

theorem resolveTraces_v4_ok {caps fwid : Reply3} {tr : Option TraceGeometry} (h : resolveTraces .v4 caps fwid = .ok tr) :
    ∃ t, traceGeometry caps fwid = .ok t ∧ tr = some t := by
  unfold resolveTraces at h
  cases ht : traceGeometry caps fwid with
  | error e => rw [ht] at h; cases h
  | ok t => rw [ht] at h; cases h; exact ⟨t, rfl, rfl⟩

theorem resolveTraces_error {g : Gen} {caps fwid : Reply3} {e : Err} (h : resolveTraces g caps fwid = .error e) :
    e = .geometryFail := by
  cases g with
  | v1 | v2 | v3 => cases h
  | v4 =>
    cases ht : traceGeometry caps fwid with
    | ok t => rw [resolveTraces, ht] at h; cases h
    | error e' => rw [resolveTraces, ht] at h; cases h; exact traceGeometry_error ht

/-- For a known generation resolution fails in one way alone (41 R173, R177, R181). -/
theorem resolve_error {hp : HostParams} {pol : HostPolicy} {fw : Firmware} {caps samples fwid : Reply3}
    {res : Option Reply3} {e : Err} (hg : genOf fw ≠ none) (h : resolve hp pol fw caps samples fwid res = .error e) :
    e = .geometryFail := by
  unfold resolve at h
  split at h
  · contradiction
  · split at h
    · cases h; rfl
    · split at h
      · rename_i ht; cases h; exact resolveTraces_error ht
      · dsimp only at h
        split at h
        · cases h
        · cases h; rfl

theorem boundsOK_iff {b : Bounds} : boundsOK b = true ↔ b.xMin < b.xMax ∧ b.yMin < b.yMax := by
  simp [boundsOK]

/-- What a profile needs: no part of 41 R182's failures. -/
theorem resolve_ok {hp : HostParams} {pol : HostPolicy} {fw : Firmware} {caps samples fwid : Reply3} {res : Option Reply3}
    {p : DeviceProfile} (h : resolve hp pol fw caps samples fwid res = .ok p) :
    genOf fw = some p.gen ∧ p.fw = fw ∧ p.samples = samples ∧ ¬ (p.gen = .v3 ∧ samples.b1 = 0x74) ∧
      p.bounds.xMin < p.bounds.xMax ∧ p.bounds.yMin < p.bounds.yMax ∧
      (p.gen = .v4 → 2 ≤ caps.b1.toNat ∧ caps.b1.toNat ≤ (packedXMax fwid).toNat ∧
        ∃ t, traceGeometry caps fwid = .ok t ∧ p.traces = some t) := by
  obtain ⟨hg, hbug, htr, -, hfw, -, hs, -, -⟩ := resolve_next h
  rw [knownBug_eq_false, hg, Option.some_inj] at hbug
  obtain ⟨hx, hy⟩ := boundsOK_iff.mp p.boundsMet
  refine ⟨hg, hfw, hs, hbug, hx, hy, fun hv4 => ?_⟩
  rw [hv4] at htr
  obtain ⟨t, ht, hp⟩ := resolveTraces_v4_ok htr
  obtain ⟨w, hw, -⟩ := traceGeometry_ok.mp ht
  obtain ⟨hlo, hhi⟩ := (traceWidth_ok.mp hw).1
  exact ⟨hlo, hhi, t, ht, hp⟩

end Sys2Proof

/-! The boot order, one stop at a time (70 R302). -/

namespace Sys2Proof

open Machine

section HostRuns

variable {α β : Type}

@[simp] theorem act_ok_andThen (a : HostAct) (x : α) (f : α → HostRun β) :
    (HostRun.act a (.ok x)).andThen f = ⟨a :: (f x).acts, (f x).outcome⟩ := rfl

@[simp] theorem act_error_andThen (a : HostAct) (e : Err) (f : α → HostRun β) :
    (HostRun.act a (.error e)).andThen f = ⟨[a], .error e⟩ := rfl

/-- What holds of the acts of both parts holds of those of the sequence. -/
theorem forall_acts_andThen {P : HostAct → Prop} {r : HostRun α} {f : α → HostRun β}
    (hr : ∀ a ∈ r.acts, P a) (hf : ∀ x, ∀ a ∈ (f x).acts, P a) : ∀ a ∈ (r.andThen f).acts, P a := by
  cases h : r.outcome with
  | ok x =>
    rw [HostRun.andThen_ok f h]
    exact fun a ha => (List.mem_append.mp ha).elim (hr a) (hf x a)
  | error e =>
    rw [HostRun.andThen_error f h]
    exact hr

theorem forall_acts_act {P : HostAct → Prop} {a : HostAct} (e : Except Err α) (h : P a) :
    ∀ x ∈ (HostRun.act a e).acts, P x := List.forall_mem_singleton.mpr h

end HostRuns

section Boot

variable {hp : HostParams} {pol : HostPolicy} {writes : DeviceProfile → List (Byte × Byte)} {r : BootReplies}
  {fw : Firmware} {caps samples fwid : Reply3} {e : Err} {p : DeviceProfile}

theorem loadAnswer_ok (h : genOf fw ≠ none) : loadAnswer fw = .ok () := by
  obtain ⟨g, hg⟩ := Option.ne_none_iff_exists'.mp h
  rw [loadAnswer, hg]

theorem loadAnswer_error (h : genOf fw = none) : loadAnswer fw = .error (.unknownHardware fw) := by
  rw [loadAnswer, h]

theorem askResolution_acts (hp : HostParams) (fw : Firmware) (res : Except Err Reply3) :
    (askResolution hp fw res).acts = if genOf fw = some .v4 then [.present (.query hp.resQuery)] else [] := by
  unfold askResolution
  split_ifs <;> rfl

theorem askResolution_outcome_ok {res : Except Err Reply3} {x : Option Reply3} :
    (askResolution hp fw res).outcome = .ok x ↔
      if genOf fw = some .v4 then ∃ y, res = .ok y ∧ x = some y else x = none := by
  unfold askResolution
  split_ifs
  · cases res <;> simp [Except.map, eq_comm]
  · simp [eq_comm]

theorem askResolution_outcome_error {res : Except Err Reply3} :
    (askResolution hp fw res).outcome = .error e ↔ genOf fw = some .v4 ∧ res = .error e := by
  unfold askResolution
  split_ifs with h
  · cases res <;> simp [Except.map, h]
  · simp [h]

theorem identify_of_badKnock (hk : ¬ GoodKnock r.knock) :
    identify hp pol r = ⟨[.present .reset, .knock hp.knockSeq], .error .notElantech⟩ := by
  simp [identify, checkKnock_of_not_goodKnock hk]

theorem identify_of_noFirmware (hk : GoodKnock r.knock) (hf : firmwareOf r.fwver = .error e) :
    identify hp pol r =
      ⟨[.present .reset, .knock hp.knockSeq, .present (.slicedQuery hp.fwverQuery)], .error e⟩ := by
  simp [identify, checkKnock_ok_iff_goodKnock.mpr hk, hf]

/-- The boot order from PROFILE_LOAD to the resolved profile (70 R302, steps 4 to 6). -/
def identifyDetected (hp : HostParams) (pol : HostPolicy) (r : BootReplies) (fw : Firmware) : HostRun DeviceProfile :=
  (HostRun.act (.present (.profileLoad fw 0 false 0)) (loadAnswer fw)).andThen fun _ =>
  (HostRun.act (.present (.query hp.capQuery)) r.caps).andThen fun caps =>
  (HostRun.act (.present (.query hp.sampleQuery)) r.samples).andThen fun samples =>
  (HostRun.act (.present (.query hp.fwidQuery)) r.fwid).andThen fun fwid =>
  (askResolution hp fw r.res).andThen fun res => ⟨[], resolve hp pol fw caps samples fwid res⟩

theorem identify_of_detect (hd : detect r.knock r.fwver = .ok fw) :
    identify hp pol r = ⟨(identifyActs hp fw).take 3 ++ (identifyDetected hp pol r fw).acts,
      (identifyDetected hp pol r fw).outcome⟩ := by
  obtain ⟨hk, hf⟩ := detect_ok.mp hd
  simp only [identify, hk, hf, act_ok_andThen]
  rfl

theorem identify_of_unmapped (hd : detect r.knock r.fwver = .ok fw) (hg : genOf fw = none) :
    identify hp pol r = ⟨(identifyActs hp fw).take 4, .error (.unknownHardware fw)⟩ := by
  simp [identify_of_detect hd, identifyDetected, loadAnswer_error hg, identifyActs]

theorem identify_of_noCaps (hd : detect r.knock r.fwver = .ok fw) (hg : genOf fw ≠ none) (hc : r.caps = .error e) :
    identify hp pol r = ⟨(identifyActs hp fw).take 5, .error e⟩ := by
  simp [identify_of_detect hd, identifyDetected, loadAnswer_ok hg, identifyActs, hc]

theorem identify_of_noSamples (hd : detect r.knock r.fwver = .ok fw) (hg : genOf fw ≠ none) (hc : r.caps = .ok caps)
    (hs : r.samples = .error e) : identify hp pol r = ⟨(identifyActs hp fw).take 6, .error e⟩ := by
  simp [identify_of_detect hd, identifyDetected, loadAnswer_ok hg, identifyActs, hc, hs]

theorem identify_of_noFwid (hd : detect r.knock r.fwver = .ok fw) (hg : genOf fw ≠ none) (hc : r.caps = .ok caps)
    (hs : r.samples = .ok samples) (hf : r.fwid = .error e) :
    identify hp pol r = ⟨(identifyActs hp fw).take 7, .error e⟩ := by
  simp [identify_of_detect hd, identifyDetected, loadAnswer_ok hg, identifyActs, hc, hs, hf]

/-- With every query but the last answered the whole of identify is done, whatever resolution gives. -/
theorem identify_of_queried (hd : detect r.knock r.fwver = .ok fw) (hg : genOf fw ≠ none) (hc : r.caps = .ok caps)
    (hs : r.samples = .ok samples) (hf : r.fwid = .ok fwid) :
    identify hp pol r = ⟨identifyActs hp fw,
      (askResolution hp fw r.res).outcome.bind (resolve hp pol fw caps samples fwid)⟩ := by
  rw [identify_of_detect hd]
  simp only [identifyDetected, loadAnswer_ok hg, hc, hs, hf, act_ok_andThen]
  cases hres : (askResolution hp fw r.res).outcome with
  | ok res => simp [HostRun.andThen_ok _ hres, askResolution_acts, identifyActs, Except.bind]
  | error e => simp [HostRun.andThen_error _ hres, askResolution_acts, identifyActs, Except.bind]

theorem identifyAndResolve_ok :
    identifyAndResolve hp pol r = .ok p ↔
      ∃ (fw : Firmware) (caps samples fwid : Reply3) (res : Option Reply3),
        detect r.knock r.fwver = .ok fw ∧ r.caps = .ok caps ∧ r.samples = .ok samples ∧ r.fwid = .ok fwid ∧
        (if genOf fw = some .v4 then ∃ x, r.res = .ok x ∧ res = some x else res = none) ∧
        resolve hp pol fw caps samples fwid res = .ok p := by
  constructor
  · intro h
    simp only [identifyAndResolve, identify, HostRun.andThen_outcome_ok, HostRun.act_outcome,
      askResolution_outcome_ok] at h
    obtain ⟨_, -, _, hk, fw, hf, _, -, caps, hc, samples, hs, fwid, hi, res, hres, hp⟩ := h
    exact ⟨fw, caps, samples, fwid, res, detect_ok.mpr ⟨hk, hf⟩, hc, hs, hi, hres, hp⟩
  · rintro ⟨fw, caps, samples, fwid, res, hd, hc, hs, hi, hres, hp⟩
    have hg : genOf fw ≠ none := by rw [(resolve_ok hp).1]; exact Option.some_ne_none _
    rw [identifyAndResolve, identify_of_queried hd hg hc hs hi, askResolution_outcome_ok.mpr hres]
    exact hp

theorem identify_acts_of_ok (h : identifyAndResolve hp pol r = .ok p) : (identify hp pol r).acts = identifyActs hp p.fw := by
  obtain ⟨fw, caps, samples, fwid, res, hd, hc, hs, hi, -, hp⟩ := identifyAndResolve_ok.mp h
  obtain ⟨hg, hfw, -⟩ := resolve_ok hp
  rw [identify_of_queried hd (by rw [hg]; exact Option.some_ne_none _) hc hs hi, hfw]

/-- After the three queries of every generation only the resolution query and resolution itself can fail. -/
theorem identify_error_of_queried (hd : detect r.knock r.fwver = .ok fw) (hg : genOf fw ≠ none) (hc : r.caps = .ok caps)
    (hs : r.samples = .ok samples) (hf : r.fwid = .ok fwid) (h : identifyAndResolve hp pol r = .error e) :
    (genOf fw = some .v4 ∧ r.res = .error e) ∨ e = .geometryFail := by
  rw [identifyAndResolve, identify_of_queried hd hg hc hs hf] at h
  cases hres : (askResolution hp fw r.res).outcome with
  | ok res => rw [hres] at h; exact .inr (resolve_error hg h)
  | error e' => rw [hres] at h; cases h; exact .inl (askResolution_outcome_error.mp hres)

/-- An act that loads no profile but the preliminary one (70 R302). -/
def LoadsOnlyPreliminary (a : HostAct) : Prop :=
  ∀ fw s1 tp ymax, a = .present (.profileLoad fw s1 tp ymax) → s1 = 0 ∧ tp = false ∧ ymax = 0

theorem identify_loadsOnlyPreliminary : ∀ a ∈ (identify hp pol r).acts, LoadsOnlyPreliminary a := by
  have load (fw : Firmware) : LoadsOnlyPreliminary (.present (.profileLoad fw 0 false 0)) := by
    rintro _ _ _ _ ⟨⟩
    exact ⟨rfl, rfl, rfl⟩
  have query (q : Byte) : LoadsOnlyPreliminary (.present (.query q)) := nofun
  refine forall_acts_andThen (forall_acts_act _ nofun) fun _ => ?_
  refine forall_acts_andThen (forall_acts_act _ nofun) fun _ => ?_
  refine forall_acts_andThen (forall_acts_act _ nofun) fun fw => ?_
  refine forall_acts_andThen (forall_acts_act _ (load fw)) fun _ => ?_
  refine forall_acts_andThen (forall_acts_act _ (query _)) fun _ => ?_
  refine forall_acts_andThen (forall_acts_act _ (query _)) fun _ => ?_
  refine forall_acts_andThen (forall_acts_act _ (query _)) fun _ => ?_
  refine forall_acts_andThen ?_ fun _ => nofun
  rw [askResolution_acts]
  split_ifs
  · exact List.forall_mem_singleton.mpr (query _)
  · nofun

theorem boot_outcome : (boot hp pol writes r).outcome = identifyAndResolve hp pol r := by
  unfold identifyAndResolve boot
  cases h : (identify hp pol r).outcome with
  | ok p => rw [HostRun.andThen_ok _ h]; rfl
  | error e => rw [HostRun.andThen_error _ h]

theorem boot_of_error {acts : List HostAct} (h : identify hp pol r = ⟨acts, .error e⟩) :
    boot hp pol writes r = ⟨acts, .error e⟩ := by
  rw [boot, h]
  rfl

theorem boot_acts_of_ok (h : identifyAndResolve hp pol r = .ok p) :
    (boot hp pol writes r).acts =
      identifyActs hp p.fw ++ .present (profileOf p) :: (writes p).map (fun w => .present (.regWrite w.1 w.2)) := by
  rw [← identify_acts_of_ok h, boot, HostRun.andThen_ok _ h]
  rfl

/-- A failure leaves the final profile and the writes out (41 R182). -/
theorem boot_acts_of_error (h : identifyAndResolve hp pol r = .error e) :
    (boot hp pol writes r).acts = (identify hp pol r).acts := by
  rw [boot, HostRun.andThen_error _ h]

/-- Every PROFILE_LOAD of a boot is the preliminary one or that of the profile the boot ends with. -/
theorem boot_loads {s1 : Byte} {tp : Bool} {ymax : BitVec 16}
    (h : .present (.profileLoad fw s1 tp ymax) ∈ (boot hp pol writes r).acts) :
    (s1 = 0 ∧ tp = false ∧ ymax = 0) ∨
      ∃ p, identifyAndResolve hp pol r = .ok p ∧ Instr.profileLoad fw s1 tp ymax = profileOf p := by
  cases hr : identifyAndResolve hp pol r with
  | error e =>
    rw [boot_acts_of_error hr] at h
    exact .inl (identify_loadsOnlyPreliminary _ h _ _ _ _ rfl)
  | ok p =>
    rw [boot_acts_of_ok hr, ← identify_acts_of_ok hr] at h
    rcases List.mem_append.mp h with h | h
    · exact .inl (identify_loadsOnlyPreliminary _ h _ _ _ _ rfl)
    · rcases List.mem_cons.mp h with h | h
      · exact .inr ⟨p, rfl, HostAct.present.inj h⟩
      · simp at h

end Boot

/-- Settles O60: each stop of the boot order from its equation, the profile from resolution alone. -/
theorem detectionAndResolutionFailClosed : Obligations.DetectionAndResolutionFailClosed := by
  refine ⟨fun _ _ _ => detect_ok_iff, fun _ _ _ _ _ _ _ _ => resolve_ok, fun hp pol writes r => ?_⟩
  intro b
  have outcome : b.outcome = identifyAndResolve hp pol r := boot_outcome
  have stop {acts : List HostAct} {e : Err} (h : identify hp pol r = ⟨acts, .error e⟩) :
      b.acts = acts ∧ b.outcome = .error e := by
    rw [show b = ⟨acts, .error e⟩ from boot_of_error h]
    exact ⟨rfl, rfl⟩
  rw [outcome]
  refine ⟨rfl, fun p => identifyAndResolve_ok, fun p => boot_acts_of_ok, fun hk => ?_, fun e hk hf => ?_, fun fw hd => ?_,
    fun _ _ _ _ => boot_loads⟩ <;> rw [← outcome]
  · exact stop (identify_of_badKnock hk)
  · exact stop (identify_of_noFirmware hk (firmwareOf_error.mpr hf))
  · refine ⟨fun hg => stop (identify_of_unmapped hd hg), fun hg => ⟨fun e hc => stop (identify_of_noCaps hd hg hc),
      fun c e hc hs => stop (identify_of_noSamples hd hg hc hs),
      fun c s e hc hs hf => stop (identify_of_noFwid hd hg hc hs hf), fun c s f hc hs hf e he => ?_⟩⟩
    rw [outcome] at he
    refine ⟨?_, identify_error_of_queried hd hg hc hs hf he⟩
    rw [show b.acts = _ from boot_acts_of_error he, identify_of_queried hd hg hc hs hf]

end Sys2Proof

/-! The framer (42_framer.md): the header bits of each kind, BYTE_IN in each of its cases, and what every packet row does. -/

namespace Sys2Proof

open Machine

/-! The masks of Classify in arithmetic (42 R204 to R208). -/

theorem and_low4_eq_iff (x : Byte) : x &&& 0x0F#8 = 0x06#8 ↔ x.toNat % 16 = 6 := by decide +revert

theorem and_bit3_eq_zero_iff (x : Byte) : x &&& 0x08#8 = 0x00#8 ↔ x.toNat / 8 % 2 = 0 := by decide +revert

theorem and_bits42_eq_iff (x : Byte) : x &&& 0x1C#8 = 0x10#8 ↔ x.toNat / 4 % 8 = 4 := by decide +revert

theorem and_low2_eq_iff (x k : Byte) : x &&& 0x03#8 = k ↔ x.toNat % 4 = k.toNat := by
  rw [← BitVec.toNat_inj, BitVec.toNat_and]
  exact (congrArg (· = k.toNat) (Nat.and_two_pow_sub_one_eq_mod x.toNat 2)).to_iff

/-- What each check mode asks of the header bytes (42 R205 to R207). -/
theorem sanityOK_iff (c : CheckMode) (p : Packet) :
    sanityOK c p = true ↔
      (c = .crc → p[3].toNat / 8 % 2 = 0) ∧ (c ≠ .crc → p[3].toNat / 4 % 8 = 4) ∧
        (c = .default → p[0].toNat / 8 % 2 = 0) := by
  cases c with
  | crc => simp [sanityOK, and_bit3_eq_zero_iff]
  | ic7 => simp [sanityOK, and_bits42_eq_iff]
  | default => simp [sanityOK, and_bit3_eq_zero_iff, and_bits42_eq_iff, and_comm]

/-- Classify with its tests on the header bytes as numbers (42 R203, R204, R208). -/
theorem classify_eq (m : PktMode) (p : Packet) :
    classify m p =
      if m.tp = true ∧ p[3].toNat % 16 = 6 then .trackPoint
      else if sanityOK m.check p = true then
        if p[3].toNat % 4 = 0 then .status else if p[3].toNat % 4 = 1 then .head
        else if p[3].toNat % 4 = 2 then .motion else .unknown
      else .unknown := by
  simp [classify, and_low4_eq_iff, and_low2_eq_iff]

theorem classify_eq_trackPoint_iff (m : PktMode) (p : Packet) :
    classify m p = .trackPoint ↔ m.tp = true ∧ p[3].toNat % 16 = 6 := by
  rw [classify_eq]
  split_ifs with ht <;> simp [ht]

/-- Status, Head and Motion: no TrackPoint packet, the kind's field and a passed check. -/
theorem classify_eq_iff {m : PktMode} {p : Packet} {k : PacketKind} (hk : k ≠ .trackPoint) (hk' : k ≠ .unknown) :
    classify m p = k ↔
      ¬ (m.tp = true ∧ p[3].toNat % 16 = 6) ∧ p[3].toNat % 4 = kindCode k - 2 ∧ sanityOK m.check p = true := by
  rw [classify_eq]
  by_cases ht : m.tp = true ∧ p[3].toNat % 16 = 6
  · simp [ht, hk.symm]
  · by_cases hs : sanityOK m.check p = true
    · simp only [ht, hs, if_false, if_true, not_false_eq_true, true_and, and_true]
      cases k with
      | trackPoint => exact absurd rfl hk
      | unknown => exact absurd rfl hk'
      | status | head | motion => simp only [kindCode]; split_ifs <;> simp [*]
    · simp [ht, hs, hk'.symm]

/-- Settles O5: Classify's branches, with the masks of its tests read in arithmetic. -/
theorem kindByHeaderBits : Obligations.KindByHeaderBits := fun m p =>
  ⟨classify_eq_trackPoint_iff m p, fun _ hk hk' => by rw [classify_eq_iff hk hk', sanityOK_iff]⟩

/-! BYTE_IN (42 R200 to R202). -/

/-- Settles O18: the two cases of a BYTE_IN that set a fault bit. -/
theorem byteWithoutV4ProfileFaults : Obligations.ByteWithoutV4ProfileFaults := fun b _ =>
  ⟨execByteIn_unconfigured b, execByteIn_unsupported b⟩

section Frame

variable {s : State}

theorem putByte_advanceFrame_of_lt_five (b : Byte) (h : s.frCount.val < 5) :
    (s.putByte b).advanceFrame =
      { s with frBuf := s.frBuf.set s.frCount.val b, frCount := ⟨s.frCount.val + 1, by omega⟩ } := by
  have hc : s.frCount + 1 = ⟨s.frCount.val + 1, by omega⟩ := by
    rw [Fin.ext_iff, Fin.val_add]
    exact Nat.mod_eq_of_lt (by omega)
  rw [← hc]
  rfl

/-- The sixth byte goes to the last place of the buffer, and the frame counter wraps to 0. -/
theorem putByte_advanceFrame_sixth (b : Byte) (h : s.frCount = 5) :
    (s.putByte b).advanceFrame = { s with frBuf := s.frBuf.set 5 b, frCount := 0 } := by
  simp [State.putByte, State.advanceFrame, h]

/-- BYTE_IN of the sixth byte: the completion of the packet in the buffer, in the row the packet decodes to. -/
theorem exec_byteIn_sixth (b : Byte) (hg : s.gen = some .v4) (h : s.frCount = 5) :
    exec (.byteIn b) s = .next (completePacket (rowKind (decodeRow s.pktMode (s.frBuf.set 5 b))) (s.frBuf.set 5 b)
      { s with frBuf := s.frBuf.set 5 b, frCount := 0 }) := by
  have hbuf : (s.putByte b).frBuf = s.frBuf.set 5 b := congrArg State.frBuf (putByte_advanceFrame_sixth b h)
  rw [← putByte_advanceFrame_sixth b h, ← hbuf]
  exact execByteIn_sixth b hg (by rw [h]; decide)

end Frame

/-- Settles O19: a byte of a packet under way is stored and counted. -/
theorem byteOfPartialPacketIsBuffered : Obligations.ByteOfPartialPacketIsBuffered := fun b _ h hg =>
  (execByteIn_buffer b hg h).trans (congrArg _ (putByte_advanceFrame_of_lt_five b h))

/-- Settles O8: BYTE_IN and the packet's instruction complete the same packet in the same row. -/
theorem sixthByteRunsDecodedPacket : Obligations.SixthByteRunsDecodedPacket := by
  intro s b hg h
  rw [exec_byteIn_sixth b hg h, decodePacket, exec_instr]

/-- Settles O20: the completion's record has the kind of the packet's row, which is Classify's. -/
theorem sixthByteCompletesPacket : Obligations.SixthByteCompletesPacket := by
  intro b s hg h
  rw [exec_byteIn_sixth b hg h, classificationMapAgreesWithClassify, completePacket_frame]
  exact ⟨_, _, rfl, rfl, rfl, rfl⟩

/-! The events of a record (43 R240). -/

theorem applyDelta_events_length (w : Coord) (i : Slot) (dx dy : Coord) (s : State) :
    (applyDelta w i dx dy s).2.length ≤ 1 := by
  rw [applyDelta_events]
  split <;> simp

theorem applyDelta?_events_length (w : Coord) (i : Option Slot) (dx dy : Coord) (s : State) :
    (applyDelta? w i dx dy s).2.length ≤ 1 := by
  cases i with
  | none => exact Nat.zero_le 1
  | some i => exact applyDelta_events_length w i dx dy s

theorem decodeMotion_events_length (p : Packet) (s : State) :
    1 ≤ (decodeMotion p s).2.length ∧ (decodeMotion p s).2.length ≤ 3 := by
  rcases motion_cases p with h | ⟨i, h, h3⟩
  · simp [decodeMotion_dropped s h]
  · have first := applyDelta_events_length (motionWeight s.par.weight p) i (delta p[1]) (delta p[2]) s
    have second := applyDelta?_events_length (motionWeight s.par.weight p) (slotOfId (sid (slotField3 p))) (delta p[4])
      (delta p[5]) (applyDelta (motionWeight s.par.weight p) i (delta p[1]) (delta p[2]) s).1
    simp only [decodeMotion_valid s h h3, List.length_append, List.length_singleton]
    omega

/-- A Status has the most events: the lifts of five slots and the sync. -/
theorem decodeKind_events_length (k : PacketKind) (p : Packet) (s : State) :
    1 ≤ (decodeKind k p s).2.length ∧ (decodeKind k p s).2.length ≤ 6 := by
  cases k with
  | unknown | trackPoint => simp [decodeKind, decodeUnknown, decodeTrackPoint]
  | status => simpa [decodeKind, decodeStatus, Nat.lt_succ_iff] using lifts_length s.live (statusMask p)
  | head =>
    rcases head_cases p with h | ⟨i, h⟩
    · simp [decodeKind, decodeHead_dropped s h]
    · simp [decodeKind, decodeHead_valid s h]
  | motion => exact (decodeMotion_events_length p s).imp_right fun h => h.trans (by decide)

/-- Settles O29: a packet row completes its packet, whose frame and events are those of the decode. -/
theorem packetRowsFrame : Obligations.PacketRowsFrame := by
  intro r p s
  obtain ⟨hpos, hle⟩ := decodeKind_events_length (rowKind r) p { s with frCount := 0 }
  refine ⟨_, _, exec_instr r p s, ?_, hpos, hle, fun hm => ?_⟩
  · rw [completePacket_frame]
  · rw [hm]
    exact (decodeMotion_events_length p { s with frCount := 0 }).2

end Sys2Proof

/-! The multi-touch decoder (43_multitouch.md): the Status result, the packets that are dropped whole, and the coordinates a
record reports. -/

namespace Sys2Proof

open Machine

/-! Rows of one kind (30 R92). -/

/-- The instruction of one of several rows completes a packet of the kind the rows share. -/
theorem exec_of_mem_rows {rows : List PktRow} {k : PacketKind} {p : Packet} {i : Instr} (s : State)
    (hk : ∀ r ∈ rows, rowKind r = k) (hi : i ∈ rows.map (PktRow.instr p)) :
    exec i s = .next (completePacket k p s) := by
  obtain ⟨r, hr, rfl⟩ := List.mem_map.mp hi
  rw [exec_instr, hk r hr]

/-- Settles O24: the three Status rows run the Status decode, whose lifts are the live slots absent from the mask. -/
theorem statusPacketResult : Obligations.StatusPacketResult := by
  intro p s i hi
  obtain ⟨ids, hlifts, hsorted, hids⟩ := lifts_eq s.live (statusMask p)
  refine ⟨statusMask p, ids, statusMask_toNat p, hsorted, hids, ?_⟩
  rw [exec_of_mem_rows (rows := [.statusCrc, .statusIc7, .statusDefault]) (k := .status) s (by decide) hi, ← hlifts]
  rfl

/-! The packets that are dropped (43 R234 to R236). -/

/-- The decode of a packet of this kind drops it. -/
def Dropped (p : Packet) : PacketKind → Prop
  | .unknown | .trackPoint => True
  | .status => False
  | .head => p[3].toNat / 32 = 0 ∨ 6 ≤ p[3].toNat / 32
  | .motion => p[0].toNat / 32 = 0 ∨ 6 ≤ p[0].toNat / 32 ∨ 6 ≤ p[3].toNat / 32

theorem dropped_iff (p : Packet) (k : PacketKind) :
    Dropped p k ↔
      k = .unknown ∨ k = .trackPoint ∨ (k = .head ∧ (p[3].toNat / 32 = 0 ∨ 6 ≤ p[3].toNat / 32)) ∨
      (k = .motion ∧ (p[0].toNat / 32 = 0 ∨ 6 ≤ p[0].toNat / 32 ∨ 6 ≤ p[3].toNat / 32)) := by
  cases k <;> simp [Dropped]

theorem decodeKind_of_dropped {k : PacketKind} {p : Packet} (s : State) (h : Dropped p k) :
    decodeKind k p s = (s, [.ignored]) := by
  cases k with
  | unknown | trackPoint => rfl
  | status => exact h.elim
  | head => exact decodeHead_dropped s h
  | motion => exact decodeMotion_dropped s h

/-- The events of a packet that is not dropped end with the sync (43 R231 to R233). -/
theorem decodeKind_events_of_not_dropped {k : PacketKind} {p : Packet} (s : State) (h : ¬ Dropped p k) :
    ∃ ev m, (decodeKind k p s).2 = ev ++ [.fingersSync m] := by
  cases k with
  | unknown | trackPoint => exact absurd trivial h
  | status => exact ⟨lifts s.live (statusMask p), statusMask p, rfl⟩
  | head =>
    obtain ⟨i, hi⟩ := (head_cases p).resolve_left h
    exact ⟨[_], _, congrArg Prod.snd (decodeHead_valid s hi)⟩
  | motion =>
    obtain ⟨i, hi, h3⟩ := (motion_cases p).resolve_left h
    exact ⟨_, _, congrArg Prod.snd (decodeMotion_valid s hi h3)⟩

theorem decodeKind_events_eq_ignored_iff (k : PacketKind) (p : Packet) (s : State) :
    (decodeKind k p s).2 = [.ignored] ↔ Dropped p k := by
  refine ⟨fun he => by_contra fun h => ?_, fun h => by rw [decodeKind_of_dropped s h]⟩
  obtain ⟨ev, m, hev⟩ := decodeKind_events_of_not_dropped s h
  have hlast : PacketEvent.ignored = .fingersSync m := by
    simpa [he] using congrArg List.getLast? hev
  cases hlast

theorem completePacket_of_dropped {k : PacketKind} {p : Packet} (s : State) (h : Dropped p k) :
    completePacket k p s =
      { s with frCount := 0, evOut := s.evOut ++ [{ kind := k, raw := p, events := [.ignored] }] } := by
  rw [completePacket, decodeKind_of_dropped _ h]
  rfl

/-- Settles O27: a slot field out of range drops the packet in each row of its kind. -/
theorem slotRangeDrops : Obligations.SlotRangeDrops := fun p s =>
  ⟨fun i hi h => by rw [exec_head s hi, completePacket_of_dropped (k := .head) s h],
    fun i hi h => by rw [exec_motion s hi, completePacket_of_dropped (k := .motion) s h]⟩

/-- Settles O28: every TrackPoint and every Unknown packet is dropped. -/
theorem trackPointAndUnknownResult : Obligations.TrackPointAndUnknownResult := by
  refine fun p s => ⟨?_, fun i hi => ?_⟩
  · exact (exec_instr .trackpoint p s).trans (congrArg _ (completePacket_of_dropped s trivial))
  · have hdropped : Dropped p .unknown := trivial
    rw [exec_of_mem_rows (rows := [.sanityCrc, .kind3Crc, .kind3Ic7, .kind3Default, .sanity]) (k := .unknown) s
      (by decide) hi, completePacket_of_dropped s hdropped]

/-! The record of a packet row (30 R99, 42 R202). -/

/-- A packet row completes its packet, and the record it adds has the decode's events. -/
theorem exec_instr_record {r : PktRow} {p : Packet} {s t : State} {o : PacketOutput} (h : exec (r.instr p) s = .next t)
    (ho : t.evOut = s.evOut ++ [o]) :
    t = completePacket (rowKind r) p s ∧ o.events = (decodeKind (rowKind r) p { s with frCount := 0 }).2 := by
  obtain rfl : completePacket (rowKind r) p s = t := by
    rw [exec_instr] at h
    exact Host.Outcome.next.inj h
  refine ⟨rfl, ?_⟩
  rw [completePacket_frame, List.append_cancel_left_eq, List.singleton_inj] at ho
  rw [← ho]

/-- Settles O30: a packet's events are [Ignored] exactly when it is dropped, and then the decode writes nothing. -/
theorem ignoredPacketsLeaveTable : Obligations.IgnoredPacketsLeaveTable := by
  intro r p s t o h ho
  obtain ⟨rfl, hev⟩ := exec_instr_record h ho
  have hiff : o.events = [.ignored] ↔ Dropped p (rowKind r) := by rw [hev, decodeKind_events_eq_ignored_iff]
  refine ⟨hiff.trans (dropped_iff p (rowKind r)), fun he => ?_⟩
  rw [completePacket_of_dropped s (hiff.mp he)]
  exact ⟨rfl, rfl, rfl, rfl⟩

/-! The coordinates a record reports (43 R239). -/

/-- Each slot the events report a coordinate of tracks, and its position is among the coordinates they report. -/
def ReportsTracking (ev : List PacketEvent) (t : State) : Prop :=
  ∀ (k : Slot) (x y : Coord), .fingerUpdate k x y ∈ ev →
    t.track.getLsbD k.val = true ∧ .fingerUpdate k t.slotX[k] t.slotY[k] ∈ ev

section Reports

variable {s : State} {ev : List PacketEvent}

theorem reportsTracking_of_no_update (s : State) (h : ∀ k x y, .fingerUpdate k x y ∉ ev) : ReportsTracking ev s :=
  fun k x y hmem => absurd hmem (h k x y)

theorem ReportsTracking.append_sync (h : ReportsTracking ev s) (m : Mask) : ReportsTracking (ev ++ [.fingersSync m]) s := by
  simpa [ReportsTracking] using h

/-- Moving a tracking slot and reporting where it is now: the other slots stay where they were reported. -/
theorem ReportsTracking.append_setSlot (h : ReportsTracking ev s) {i : Slot} (hi : s.track.getLsbD i.val = true)
    (x y : Coord) : ReportsTracking (ev ++ [.fingerUpdate i x y]) (s.setSlot i x y) := by
  intro k a b hmem
  by_cases hk : k = i
  · subst hk
    exact ⟨hi, by simp⟩
  · have hold : .fingerUpdate k a b ∈ ev := by simpa [hk] using hmem
    obtain ⟨htrack, hpos⟩ := h k a b hold
    have hv : i.val ≠ k.val := fun e => hk (Fin.ext e.symm)
    exact ⟨htrack, List.mem_append_left _ (by simpa [hv] using hpos)⟩

/-- Apply moves a slot only if it tracks, and then reports it. -/
theorem ReportsTracking.append_applyDelta (h : ReportsTracking ev s) (w : Coord) (i : Slot) (dx dy : Coord) :
    ReportsTracking (ev ++ (applyDelta w i dx dy s).2) (applyDelta w i dx dy s).1 := by
  unfold applyDelta
  split
  · next hi => exact h.append_setSlot hi _ _
  · simpa using h

theorem ReportsTracking.append_applyDelta? (h : ReportsTracking ev s) (w : Coord) (sec : Option Slot) (dx dy : Coord) :
    ReportsTracking (ev ++ (applyDelta? w sec dx dy s).2) (applyDelta? w sec dx dy s).1 := by
  cases sec with
  | none => simpa [applyDelta?] using h
  | some i => exact h.append_applyDelta w i dx dy

/-- The moves of a Motion in their order, from no report. -/
theorem applyBoth_reportsTracking (w : Coord) (i : Slot) (sec : Option Slot) (dx dy dx' dy' : Coord) (s : State) :
    ReportsTracking (applyBoth w i sec dx dy dx' dy' s).2 (applyBoth w i sec dx dy dx' dy' s).1 :=
  have first : ReportsTracking (applyDelta w i dx dy s).2 (applyDelta w i dx dy s).1 :=
    (reportsTracking_of_no_update (ev := []) s (by simp)).append_applyDelta w i dx dy
  first.append_applyDelta? w sec dx' dy'

end Reports

theorem decodeStatus_reportsTracking (p : Packet) (s : State) :
    ReportsTracking (decodeStatus p s).2 (decodeStatus p s).1 :=
  reportsTracking_of_no_update _ (by simp [decodeStatus, lifts])

/-- A Head marks its slot as tracking, moves it and reports it. -/
theorem decodeHead_reportsTracking {p : Packet} (s : State) {i : Slot} (hi : p[3].toNat / 32 = i.val + 1) :
    ReportsTracking (decodeHead p s).2 (decodeHead p s).1 := by
  have htrack : (s.markSlot i).track.getLsbD i.val = true := by simp [slotBit_getLsbD]
  rw [decodeHead_valid s hi]
  exact ((reportsTracking_of_no_update (ev := []) (s.markSlot i) (by simp)).append_setSlot htrack _ _).append_sync _

theorem decodeMotion_reportsTracking {p : Packet} (s : State) {i : Slot} (hi : p[0].toNat / 32 = i.val + 1)
    (h3 : p[3].toNat / 32 < 6) : ReportsTracking (decodeMotion p s).2 (decodeMotion p s).1 := by
  rw [decodeMotion_eq_applyBoth s hi h3]
  exact ReportsTracking.append_sync (applyBoth_reportsTracking _ _ _ _ _ _ _ _) _

theorem decodeKind_reportsTracking (k : PacketKind) (p : Packet) (s : State) :
    ReportsTracking (decodeKind k p s).2 (decodeKind k p s).1 := by
  by_cases h : Dropped p k
  · rw [decodeKind_of_dropped s h]
    exact reportsTracking_of_no_update s (by simp)
  · cases k with
    | unknown | trackPoint => exact absurd trivial h
    | status => exact decodeStatus_reportsTracking p s
    | head =>
      obtain ⟨i, hi⟩ := (head_cases p).resolve_left h
      exact decodeHead_reportsTracking s hi
    | motion =>
      obtain ⟨i, hi, h3⟩ := (motion_cases p).resolve_left h
      exact decodeMotion_reportsTracking s hi h3

/-- Settles O31: every decode reports tracking slots at their positions, and the rest of the completion leaves both alone. -/
theorem reportedSlotsTrack : Obligations.ReportedSlotsTrack := by
  intro r p s t o h ho
  obtain ⟨rfl, hev⟩ := exec_instr_record h ho
  rw [hev]
  exact decodeKind_reportsTracking (rowKind r) p { s with frCount := 0 }

end Sys2Proof

/-! The exceptions (60_exceptions.md): the two errors a step ends in, and the one stop of the machine. -/

namespace Sys2Proof

open Machine

/-- Settles O15: whether the firmware has a generation is the only case split of PROFILE_LOAD. -/
theorem profileLoadUnmappedResult : Obligations.ProfileLoadUnmappedResult := by
  intro fw s1 tp ymax s hg
  simp only [exec, execProfileLoad, hg]
  rfl

/-- Settles O42: the answer gives no reply, and no attempt is left. -/
theorem finalFailureIsTransferFail : Obligations.FinalFailureIsTransferFail := by
  intro s st a more hb hp hst ha hfinal ht
  have hnone : transferReply st.n a = none := by
    rcases ha with rfl | ⟨r, rfl, hr⟩
    · rfl
    · exact transferReply_short hr
  have hlast : ¬ (st.retry = true ∧ s.serTry < s.par.nTries) := by
    rintro ⟨hretry, hlt⟩
    rcases hfinal with hf | hle
    · exact absurd (hf.symm.trans hretry) (by decide)
    · exact absurd (BitVec.lt_def.mp hlt) (Nat.not_lt.mpr hle)
  exact (step_failed hb hp hst ht hnone).trans (stepFailed_final hlast)

/-! The machine goes on (60 R281, R286): each operation of a state of the invariant has a next state, but for an answer to no
Transfer. -/

/-- The machine does not stop. -/
def Continues (o : Host.Outcome State Fault Refusal) : Prop := ∃ t, o = .next t

section Continuing

variable {s : State}

/-- A profile with a generation, or none, does not stop a request (40 R136). -/
theorem startConfigured_continues (hm : s.cfgValid = true → genOf s.cfgFw ≠ none) (r : Req) (plan : Gen → List SerStep) :
    Continues (startConfigured r plan s) := by
  cases hv : s.cfgValid with
  | false => exact ⟨_, startConfigured_invalid r plan hv⟩
  | true =>
    obtain ⟨g, hg⟩ := Option.ne_none_iff_exists'.mp (hm hv)
    exact ⟨_, startConfigured_mapped r plan hv hg⟩

theorem execByteIn_continues (b : Byte) (s : State) : Continues (execByteIn b s) := by
  rcases byteIn_cases s with hv | ⟨hv, hg⟩ | ⟨hg, hc⟩ | ⟨hg, hc⟩
  · exact ⟨_, execByteIn_unconfigured b hv⟩
  · exact ⟨_, execByteIn_unsupported b hv hg⟩
  · exact ⟨_, execByteIn_buffer b hg hc⟩
  · exact ⟨_, execByteIn_sixth b hg hc⟩

/-- The instructions of transaction words go on. -/
theorem IsTransaction.exec_continues {i : Instr} (hi : IsTransaction i) (hm : s.cfgValid = true → genOf s.cfgFw ≠ none) :
    Continues (exec i s) := by
  cases hi with
  | reset => exact ⟨_, rfl⟩
  | profileLoad fw s1 tp ymax =>
    by_cases hg : genOf fw = none
    · exact ⟨_, profileLoadUnmappedResult fw s1 tp ymax s hg⟩
    · exact ⟨_, profileLoadMappedResult fw s1 tp ymax s hg⟩
  | byteIn b => exact execByteIn_continues b s
  | regWrite a v =>
    by_cases ha : addrOK a = true
    · have hgo := startConfigured_continues hm (.write a v) fun g => writePlan s.par g a v
      rwa [← execRegWrite_legal v ha] at hgo
    · exact ⟨_, execRegWrite_illegal v ha⟩
  | regRead a =>
    by_cases ha : addrOK a = true
    · have hgo := startConfigured_continues hm (.read a) fun g => readPlan s.par g a
      rwa [← execRegRead_legal ha] at hgo
    · exact ⟨_, execRegRead_illegal ha⟩
  | query q => exact startConfigured_continues hm _ _
  | slicedQuery q => exact ⟨_, rfl⟩

theorem accept_continues (hm : s.cfgValid = true → genOf s.cfgFw ≠ none) (w : TxWord) : Continues (accept w s) := by
  cases hw : decodeTx w with
  | error r => exact ⟨_, accept_error hw⟩
  | ok i =>
    rw [accept_ok hw]
    exact (decodeTx_isTransaction hw).exec_continues hm

theorem presentBusy_continues (w : TxWord) (s : State) : Continues (presentBusy w s) := by
  by_cases hw : decodeTx w = .ok .reset
  · exact ⟨_, presentBusy_reset hw⟩
  · exact ⟨_, presentBusy_waits hw⟩

theorem stepFailed_continues (s : State) (st : SerStep) : Continues (stepFailed s st) := by
  by_cases h : st.retry = true ∧ s.serTry < s.par.nTries
  · exact ⟨_, stepFailed_retry h⟩
  · exact ⟨_, stepFailed_final h⟩

/-- The current step of a consistent request is a step of its plan (10 R41). -/
theorem RequestOK.current (h : RequestOK s) : ∃ st, s.serPlan[s.serIdx]? = some st := ⟨_, List.getElem?_eq_getElem h.idx⟩

/-- The last reply of a plan has the length its request reads, so the request has a result (40 R121, R131 to R134). -/
theorem RequestOK.stepDone_continues (h : RequestOK s) {st : SerStep} {r : List Byte}
    (hst : s.serPlan[s.serIdx]? = some st) (hr : r.length = st.n) : Continues (stepDone s r) := by
  by_cases hlt : s.serIdx + 1 < s.serPlan.length
  · exact ⟨_, stepDone_advance hlt⟩
  · have hle : s.serPlan.length ≤ s.serIdx + 1 := Nat.not_lt.mp hlt
    have hlen : r.length = replyBytes s.serReq := hr.trans (planShape_last h.shape hst hle)
    obtain ⟨res, hres⟩ := requestResult_isSome s.gen s.serReq s.serRep r hlen
    exact ⟨_, stepDone_finish hle hres⟩

theorem RequestOK.serMove_continues (h : RequestOK s) : Continues (serMove s) := by
  cases hp : s.serPhase with
  | issue =>
    obtain ⟨st, hst⟩ := h.current
    exact ⟨_, serMove_issue hp hst⟩
  | wait => exact ⟨_, serMove_wait hp⟩
  | answer => exact ⟨s, by simp only [serMove, hp]⟩

theorem RequestOK.serAnswer_continues (h : RequestOK s) (a : ChanAnswer) : Continues (serAnswer a s) := by
  obtain ⟨st, hst⟩ := h.current
  simp only [serAnswer, hst]
  cases hr : transferReply st.n a with
  | some r => exact h.stepDone_continues hst (transferReply_length hr)
  | none => exact stepFailed_continues s st

/-! The stop. -/

/-- The next move is an answer to no Transfer: none is owed, and it is the answer of a channel with no request in flight, or one
marked late that the block comes to (60 R286; log 10, log 30). -/
def StrayTurn (s : State) : Prop :=
  s.owed = 0 ∧
    ((s.serBusy = false ∧ s.waiting = [] ∧ ∃ a more, s.turns = .channel a :: more) ∨
     ((s.serBusy = true ∨ s.waiting = []) ∧ ∃ a more, s.turns = .late a :: more))

theorem lateAnswer_continues (h : s.owed ≠ 0) : Continues (lateAnswer s) := by
  obtain ⟨n, hn⟩ := Nat.exists_eq_succ_of_ne_zero h
  exact ⟨_, lateAnswer_owed hn⟩

theorem step_strayTurn (h : StrayTurn s) : step s = .fault .strayAnswer := by
  obtain ⟨ho, ⟨hb, hw, a, more, ht⟩ | ⟨hbw, a, more, ht⟩⟩ := h
  · rw [step_idle hb, idleTurn_channel hw ht]
    exact lateAnswer_stray ho
  · cases hb : s.serBusy with
    | true =>
      rw [step_busy hb, busyTurn_late ht]
      exact lateAnswer_stray ho
    | false =>
      have hw : s.waiting = [] := hbw.resolve_left (by simp [hb])
      rw [step_idle hb, idleTurn_late hw ht]
      exact lateAnswer_stray ho

theorem Invariant.busyTurn_continues (h : Invariant s) (hb : s.serBusy = true) (hs : ¬ StrayTurn s) :
    Continues (busyTurn s) := by
  have hreq (ts : List Turn) : RequestOK { s with turns := ts } := (h.withQueues ts _ _ _).request hb
  rcases ht : s.turns with _ | ⟨turn, ts⟩
  · rw [busyTurn_end ht]
    exact (h.request hb).serMove_continues
  · cases turn with
    | block =>
      rw [busyTurn_block ht]
      exact (hreq ts).serMove_continues
    | present w =>
      rw [busyTurn_present ht]
      exact presentBusy_continues w _
    | late a =>
      rw [busyTurn_late ht]
      exact lateAnswer_continues fun ho => hs ⟨ho, .inr ⟨.inl hb, a, ts, ht⟩⟩
    | channel a =>
      rw [busyTurn_channel ht]
      split
      · exact (hreq ts).serAnswer_continues a
      · exact (h.request hb).serMove_continues

theorem Invariant.idleTurn_continues (h : Invariant s) (hb : s.serBusy = false) (hs : ¬ StrayTurn s) :
    Continues (idleTurn s) := by
  rcases hw : s.waiting with _ | ⟨w, ws⟩
  · rcases ht : s.turns with _ | ⟨turn, ts⟩
    · exact ⟨_, idleTurn_end hw ht⟩
    · cases turn with
      | block => exact ⟨_, idleTurn_block hw ht⟩
      | present w =>
        rw [idleTurn_present hw ht]
        exact accept_continues (s := { s with turns := ts }) h.mapped w
      | late a =>
        rw [idleTurn_late hw ht]
        exact lateAnswer_continues fun ho => hs ⟨ho, .inr ⟨.inr hw, a, ts, ht⟩⟩
      | channel a =>
        rw [idleTurn_channel hw ht]
        exact lateAnswer_continues fun ho => hs ⟨ho, .inl ⟨hb, hw, a, ts, ht⟩⟩
  · rw [idleTurn_waiting hw]
    exact accept_continues (s := { s with waiting := ws }) h.mapped w

/-- A step of a state of the invariant goes on, unless the next move is an answer to no Transfer. -/
theorem Invariant.step_continues (h : Invariant s) (hs : ¬ StrayTurn s) : Continues (step s) := by
  cases hb : s.serBusy with
  | true =>
    rw [step_busy hb]
    exact h.busyTurn_continues hb hs
  | false =>
    rw [step_idle hb]
    exact h.idleTurn_continues hb hs

end Continuing

/-- Settles O53: an answer to no Transfer stops the step, and every other step goes on. -/
theorem machineStopsOnlyOnStrayAnswer : Obligations.MachineStopsOnlyOnStrayAnswer := by
  intro s h
  by_cases hs : StrayTurn s
  · have hstop := step_strayTurn hs
    refine ⟨fun r => by simp [hstop], fun f => ⟨fun hf => ?_, fun hf => hf.1 ▸ hstop⟩⟩
    cases hstop.symm.trans hf
    exact ⟨rfl, hs⟩
  · obtain ⟨t, hnext⟩ := h.step_continues hs
    exact ⟨fun r => by simp [hnext], fun f => ⟨fun hf => by simp [hnext] at hf, fun hf => absurd hf.2 hs⟩⟩

end Sys2Proof

/-! RESET and a silent channel (70_reset_and_hazards.md): what ends a request early, and what holds it for ever. -/

namespace Sys2Proof

open Machine

/-! A channel that stays silent (70 R305). -/

section Silence

variable {s : State}

theorem serMove_answer (hp : s.serPhase = .answer) : serMove s = .next s := by
  simp only [serMove, hp]

/-- The step awaits an answer, and no turn brings one. -/
theorem step_silent (hb : s.serBusy = true) (hp : s.serPhase = .answer) (ht : s.turns = []) : step s = .next s := by
  rw [step_busy hb, busyTurn_end ht, serMove_answer hp]

theorem run_of_step_self {M : Host.Core} {s : M.State} (h : M.step s = .next s) (k : Nat) : M.run k s = .next s := by
  induction k with
  | zero => rfl
  | succ k ih => exact (run_succ h).trans ih

end Silence

/-- Settles O50: the step is a self-loop, so no number of steps leaves the state. -/
theorem silentChannelHoldsRequest : Obligations.SilentChannelHoldsRequest := fun _ k hb hp ht =>
  run_of_step_self (M := core) (step_silent hb hp ht) k

/-! RESET (70 R300). -/

section Reset

variable {s : State}

theorem exec_reset (s : State) : exec .reset s = .next s.afterReset := rfl

/-- RESET leaves one answer more owed when the request it abandons awaits one (60 R286; log 30). -/
theorem afterReset_owed_eq_add (s : State) :
    s.afterReset.owed = s.owed + (if s.serBusy = true ∧ s.serPhase = .answer then 1 else 0) := by
  rw [State.afterReset_owed]
  split <;> rfl

theorem afterReset_owed_of_busy (hb : s.serBusy = true) :
    s.afterReset.owed = s.owed + (if s.serPhase = .answer then 1 else 0) := by
  simp only [afterReset_owed_eq_add, hb, true_and]

theorem step_resetPresented (hb : s.serBusy = true) (hr : ResetPresented s) :
    ∃ ts, step s = .next { s with turns := ts }.afterReset := by
  obtain ⟨w, ts, ht, hw⟩ := hr
  exact ⟨ts, by rw [step_busy hb, busyTurn_present ht, presentBusy_reset hw, exec_reset]⟩

end Reset

/-- Settles O10: RESET has one outcome, read field by field. -/
theorem resetResult : Obligations.ResetResult := fun s =>
  ⟨s.afterReset, exec_reset s, rfl, rfl, rfl, rfl, rfl, rfl, rfl, rfl, rfl, rfl, rfl, rfl, rfl, rfl, afterReset_owed_eq_add s⟩

/-! The answer to an abandoned Transfer (60 R286, 70 R300; log 30). -/

section LateAnswers

variable {s : State} {a : ChanAnswer} {more : List Turn}

theorem step_idle_channel (hb : s.serBusy = false) (hw : s.waiting = []) (ht : s.turns = .channel a :: more) :
    step s = lateAnswer { s with turns := more } := by
  rw [step_idle hb, idleTurn_channel hw ht]

/-- The block comes to a late answer during a request, or with no word waiting. -/
theorem step_late (hbw : s.serBusy = true ∨ s.waiting = []) (ht : s.turns = .late a :: more) :
    step s = lateAnswer { s with turns := more } := by
  by_cases hb : s.serBusy = true
  · rw [step_busy hb, busyTurn_late ht]
  · rw [step_idle (Bool.eq_false_of_not_eq_true hb), idleTurn_late (hbw.resolve_left hb) ht]

theorem lateAnswer_of_owed_pos (ho : 0 < s.owed) : lateAnswer s = .next { s with owed := s.owed - 1 } :=
  lateAnswer_owed (Nat.succ_pred_eq_of_pos ho).symm

end LateAnswers

/-- Settles O11: the presented RESET ends the request, and each of the two late answers lowers the count. -/
theorem resetAbandonsRequest : Obligations.ResetAbandonsRequest := by
  refine ⟨fun s hb hr => ?_, fun s a more ho hlate => ?_⟩
  · obtain ⟨ts, hstep⟩ := step_resetPresented hb hr
    exact ⟨_, hstep, rfl, rfl, rfl, rfl, rfl, rfl, afterReset_owed_of_busy (s := { s with turns := ts }) hb⟩
  · have hdrop : lateAnswer { s with turns := more } = .next { s with turns := more, owed := s.owed - 1 } :=
      lateAnswer_of_owed_pos (s := { s with turns := more }) ho
    obtain ⟨hb, hw, ht⟩ | ⟨hbw, ht⟩ := hlate
    · exact (step_idle_channel hb hw ht).trans hdrop
    · exact (step_late hbw ht).trans hdrop

end Sys2Proof
